-- ==== Sys2Proof/Word.lean ====
section
/-! DEFINITION. The words of the block (00_scope.md R6, R7): bytes, 16-bit and 32-bit values, byte sequences. -/

namespace Sys2Proof

/-- `u8` (R7): a byte, a slave address, a function code, a sub-code. -/
abbrev Byte := BitVec 8

/-- `u16` (R7). -/
abbrev U16 := BitVec 16

/-- `u32` (R7). -/
abbrev U32 := BitVec 32

/-- `i32` (R7), held as its 32-bit two's-complement pattern (R10; log entry 7); its value is `sext32`. -/
abbrev I32 := BitVec 32

/-- A byte sequence in wire order, offset 0 first (R9). -/
abbrev Bytes := List Byte

end Sys2Proof
end

