-- ==== Sys2Proof/Config.lean ====
section
/-! DEFINITION. The parameters of the block (00_scope.md R5): RESERVED_POLICY and STRICT_VARIANT as fields of `Config`,
ERRFLAG_POS as a value the ErrorFlags accessors take as an argument. -/

namespace Sys2Proof

/-- RESERVED_POLICY (R5; 42_decode.md R147). -/
inductive ReservedPolicy where
  | ignore
  | reject
deriving DecidableEq, Repr

/-- The parameters a command's result can depend on (R5). State carries them, so that a statement about every state
is a statement about every setting (log entry 1). -/
structure Config where
  reservedPolicy : ReservedPolicy
  strictVariant : Bool
deriving DecidableEq, Repr

/-- The default of each parameter (R5): `Ignore` and `false`. -/
def Config.default : Config := { reservedPolicy := .ignore, strictVariant := false }

/-- The nine named flags of ErrorFlags, in the order 30_encoding.md R74 lists them. -/
inductive ErrorFlag where
  | configurationErrors
  | forceClipping
  | temperatureExceeded
  | forceExceeded
  | powerExceeded
  | shaftImageFailed
  | voltageInvalid
  | communicationTimeout
  | autoZeroFailed
deriving DecidableEq, Repr

/-- ERRFLAG_POS (R5): the bit position, 0 to 15, of each named flag. OPEN: no value of it stands in the model. -/
structure ErrFlagPos where
  configurationErrors : Fin 16
  forceClipping : Fin 16
  temperatureExceeded : Fin 16
  forceExceeded : Fin 16
  powerExceeded : Fin 16
  shaftImageFailed : Fin 16
  voltageInvalid : Fin 16
  communicationTimeout : Fin 16
  autoZeroFailed : Fin 16
deriving DecidableEq, Repr

/-- `ERRFLAG_POS(f)`. -/
def ErrFlagPos.at (p : ErrFlagPos) : ErrorFlag → Fin 16
  | .configurationErrors => p.configurationErrors
  | .forceClipping => p.forceClipping
  | .temperatureExceeded => p.temperatureExceeded
  | .forceExceeded => p.forceExceeded
  | .powerExceeded => p.powerExceeded
  | .shaftImageFailed => p.shaftImageFailed
  | .voltageInvalid => p.voltageInvalid
  | .communicationTimeout => p.communicationTimeout
  | .autoZeroFailed => p.autoZeroFailed

/-- The positions in R74's listed order. -/
def ErrFlagPos.toList (p : ErrFlagPos) : List Nat :=
  [p.configurationErrors.val, p.forceClipping.val, p.temperatureExceeded.val, p.forceExceeded.val, p.powerExceeded.val,
   p.shaftImageFailed.val, p.voltageInvalid.val, p.communicationTimeout.val, p.autoZeroFailed.val]

/-- Two neighbouring flags are adjacent or at least two reserved bits lie between them (R74 constraint 3), and the
first lies below the second (R74 constraint 2, which gives the distinctness of constraint 1). -/
def gapAllowed (lo hi : Nat) : Bool := hi == lo + 1 || decide (lo + 3 ≤ hi)

/-- Every neighbouring pair of a list is allowed. -/
def gapsAllowed : List Nat → Bool
  | lo :: hi :: rest => gapAllowed lo hi && gapsAllowed (hi :: rest)
  | _ => true

/-- The constraints R74 puts on ERRFLAG_POS: constraint 1 is the source's, 2 and 3 are the spec's readings
(92_eei_decisions.md D8; log entry 8). -/
def ErrFlagPos.valid (p : ErrFlagPos) : Bool := gapsAllowed p.toList

/-- The reserved bit positions: those no named flag takes (R74). -/
def ErrFlagPos.reserved (p : ErrFlagPos) : List Nat := (List.range 16).filter fun k => k ∉ p.toList

end Sys2Proof
end

