-- ==== Sys2Proof/Syntax.lean ====
section
/-! DEFINITION. The typed values of the block (30_encoding.md R63), its instructions, one constructor per row of
spec/opcode_table.json, and the two encodings they have: a host command (R61) or a frame (R60). -/

namespace Sys2Proof

/-- The four function codes (R63). -/
inductive FunctionCode where
  | manage
  | command
  | read
  | write
deriving DecidableEq, Repr

/-- `SubFunction` of a Manage request (R73). -/
inductive SubFunction where
  | enable
  | disable
deriving DecidableEq, Repr

/-- Mode of Operation (R78). -/
inductive Mode where
  | sleepMode
  | forceMode
  | positionMode
  | hapticMode
  | kineticMode
  | pulseWidthMode
  | autoZeroingMode
deriving DecidableEq, Repr

/-- ErrorFlags, held as its full raw 16-bit value (R76). -/
abbrev ErrorFlags := U16

/-- The Command request's inner tagged union (R65). -/
inductive CommandPayload where
  | forceControlStream (forceMn : I32)
  | positionControlStream (positionUm : I32)
  | kinematicDataStream
  | hapticDataStream (hapticStatusRegister : U32)
  | sleepDataStream
deriving DecidableEq, Repr

/-- `RequestPDU` (R63). -/
inductive RequestPDU where
  | manage (subFunctionCode : SubFunction) (baudRate : U32) (delayUs : U16)
  | command (payload : CommandPayload)
  | read (registerAddress : U16) (registerWidth : Byte)
  | write (registerAddress : U16) (registerWidth : Byte) (registerData : U32)
deriving DecidableEq, Repr

/-- `CommandResponse`, the 15-byte body (R63, R80). -/
structure CommandResponse where
  positionUm : I32
  forceMn : I32
  powerW : U16
  temperatureC : Byte
  voltageMv : U16
  error : ErrorFlags
deriving DecidableEq, Repr

/-- `ResponsePDU` (R63). -/
inductive ResponsePDU where
  | manage (stateCommand : U16) (baudRate : U32) (delayUs : U16)
  | command (body : CommandResponse)
  | read (readRegisterValue : U32) (modeOfOperation : Mode) (commandResponse : CommandResponse)
  | write (modeOfOperation : Mode) (commandResponse : CommandResponse)
deriving DecidableEq, Repr

/-- A decoded ADU (10_state.md R25); the `crc` of an ADU is not stored (00_scope.md R11, 30_encoding.md R60). -/
inductive DecodedADU where
  | req (slaveAddress : Byte) (pdu : RequestPDU)
  | rsp (slaveAddress : Byte) (pdu : ResponsePDU)
deriving DecidableEq, Repr

/-- The instructions: the eight host commands (R62), then the twelve frames of the wire encoding, each with the raw
fields its layout table gives (R64 to R72, R81 to R84), reserved bytes and CRC included (log entry 5). -/
inductive Instr where
  /-- CRC_INIT (40_crc.md R103) -/
  | crcInit
  /-- CRC_UPDATE (40_crc.md R104) -/
  | crcUpdate (b : Byte)
  /-- ENCODE_REQ (41_encode.md R130) -/
  | encodeReq (addr : Byte) (req : RequestPDU)
  /-- ENCODE_RSP (41_encode.md R131) -/
  | encodeRsp (addr : Byte) (rsp : ResponsePDU)
  /-- DECODE_REQ (42_decode.md R157) -/
  | decodeReq (frame : Bytes)
  /-- DECODE_RSP (42_decode.md R167) -/
  | decodeRsp (frame : Bytes)
  /-- RESP_LEN (43_control.md R172) -/
  | respLen (req : RequestPDU)
  /-- ABORT (43_control.md R173) -/
  | abort
  /-- REQ_MANAGE (30_encoding.md R64, 42_decode.md R149) -/
  | reqManage (addr : Byte) (subFunctionCode : U16) (baudRate : U32) (delayUs : U16) (crc : U16)
  /-- REQ_CMD_FORCE (R66, R150) -/
  | reqCmdForce (addr : Byte) (forceMn : I32) (crc : U16)
  /-- REQ_CMD_POSITION (R67, R151) -/
  | reqCmdPosition (addr : Byte) (positionUm : I32) (crc : U16)
  /-- REQ_CMD_KINEMATIC (R68, R152); `reserved` is the four reserved bytes -/
  | reqCmdKinematic (addr : Byte) (reserved : U32) (crc : U16)
  /-- REQ_CMD_HAPTIC (R69, R153) -/
  | reqCmdHaptic (addr : Byte) (hapticStatusRegister : U32) (crc : U16)
  /-- REQ_CMD_SLEEP (R70, R154); `reserved` is the four bytes after the placeholder -/
  | reqCmdSleep (addr : Byte) (reserved : U32) (crc : U16)
  /-- REQ_READ (R71, R155) -/
  | reqRead (addr : Byte) (registerAddress : U16) (registerWidth : Byte) (crc : U16)
  /-- REQ_WRITE (R72, R156) -/
  | reqWrite (addr : Byte) (registerAddress : U16) (registerWidth : Byte) (registerData : U32) (crc : U16)
  /-- RSP_MANAGE (R81, R160) -/
  | rspManage (addr : Byte) (stateCommand : U16) (baudRate : U32) (delayUs : U16) (crc : U16)
  /-- RSP_COMMAND (R82, R161) -/
  | rspCommand (addr : Byte) (body : CommandResponse) (crc : U16)
  /-- RSP_READ (R83, R162); `mode` is the raw Mode byte -/
  | rspRead (addr : Byte) (readRegisterValue : U32) (mode : Byte) (body : CommandResponse) (crc : U16)
  /-- RSP_WRITE (R84, R163); `mode` is the raw Mode byte -/
  | rspWrite (addr : Byte) (mode : Byte) (body : CommandResponse) (crc : U16)
deriving DecidableEq, Repr

/-- A host command (R61): the command word and the operand slots, one per operand type. "The block reads its operand
slot only for the opcode that names it", so a slot the opcode does not name may hold anything (log entry 3). -/
structure HostCommand where
  /-- the command word `CMD` -/
  cmd : Byte
  /-- `b` of CRC_UPDATE -/
  b : Byte
  /-- `addr` of ENCODE_REQ and ENCODE_RSP -/
  addr : Byte
  /-- `req` of ENCODE_REQ and RESP_LEN -/
  req : RequestPDU
  /-- `rsp` of ENCODE_RSP -/
  rsp : ResponsePDU
  /-- `B` of DECODE_REQ and DECODE_RSP -/
  bytes : Bytes
deriving DecidableEq, Repr

/-- What the host does to the block: it issues a command (10_state.md R20), or it resets the block, "a host action
outside the command set" (70_reset_and_hazards.md R210). -/
inductive HostEvent where
  | command (c : HostCommand)
  | reset
deriving DecidableEq, Repr

/-- The encoded form of an instruction (30_encoding.md, its first lines): a host command, or a frame in one of the
two directions (42_decode.md R140). -/
inductive Encoded where
  | command (c : HostCommand)
  | requestFrame (frame : Bytes)
  | responseFrame (frame : Bytes)
deriving DecidableEq, Repr

end Sys2Proof
end

