-- ==== Sys2Proof/Machine/Operands.lean ====
section
/-! DEFINITION. The operand forms: the byte primitives of 00_scope.md R10, the code tables of 30_encoding.md, the
serialisers of 41_encode.md R116 to R128, the field parsers of 42_decode.md R149 to R163 and the raw frame layouts of
R64 to R72 and R81 to R84. -/

namespace Sys2Proof.Machine

/-! ### Byte primitives (R10) -/

/-- `B[k]` (R9). Every use reads inside the sequence, since the length checks of R142 and R144 come first; outside it
the total function answers 0 (log entry 11). -/
def byteAt (B : Bytes) (k : Nat) : Byte := B.getD k 0

/-- `be16(B, k)`. -/
def be16 (B : Bytes) (k : Nat) : U16 := byteAt B k ++ byteAt B (k + 1)

/-- `be32(B, k)`. -/
def be32 (B : Bytes) (k : Nat) : U32 := be16 B k ++ be16 B (k + 2)

/-- `le16(B, k)`. -/
def le16 (B : Bytes) (k : Nat) : U16 := byteAt B (k + 1) ++ byteAt B k

/-- `put_be16(v)`. -/
def putBe16 (v : U16) : Bytes := [v.extractLsb' 8 8, v.extractLsb' 0 8]

/-- `put_be32(v)`. -/
def putBe32 (v : U32) : Bytes := [v.extractLsb' 24 8, v.extractLsb' 16 8, v.extractLsb' 8 8, v.extractLsb' 0 8]

/-- `put_le16(v)`. -/
def putLe16 (v : U16) : Bytes := [v.extractLsb' 0 8, v.extractLsb' 8 8]

/-- `sext_32(v)`: the value of a 32-bit pattern read as `i32`. -/
def sext32 (v : U32) : Int := if v.toNat < 2 ^ 31 then (v.toNat : Int) else (v.toNat : Int) - 2 ^ 32

/-- `v mod 2^32`: the pattern an `i32` value is written with. -/
def i32Pattern (v : Int) : I32 := BitVec.ofInt 32 v

/-! ### Code tables -/

/-- The function codes (30_encoding.md R63). -/
def fcCode : FunctionCode → Byte
  | .manage => 0x41
  | .command => 0x64
  | .read => 0x68
  | .write => 0x69

/-- The function code a byte is, if it is one (R63, R88; 42_decode.md R143). -/
def fcOf (b : Byte) : Option FunctionCode :=
  if b = 0x41 then some .manage
  else if b = 0x64 then some .command
  else if b = 0x68 then some .read
  else if b = 0x69 then some .write
  else none

/-- `reqlen(fc)` (R85). -/
def reqLen : FunctionCode → Nat
  | .manage => 12
  | .command => 9
  | .read => 7
  | .write => 11

/-- `payload_size(fc)` (43_control.md R170). -/
def payloadSize : FunctionCode → Nat
  | .manage => 9
  | .command => 16
  | .read => 21
  | .write => 17

/-- `rsplen(fc)` (R85), by the formula `1 + payload_size(fc) + 2` (43_control.md R171). -/
def rspLen (fc : FunctionCode) : Nat := 1 + payloadSize fc + 2

/-- `minreq` (R85). -/
def minReq : Nat := 7

/-- `minrsp` (R85). -/
def minRsp : Nat := 12

/-- `fc(req)` (43_control.md R171). -/
def reqFc : RequestPDU → FunctionCode
  | .manage _ _ _ => .manage
  | .command _ => .command
  | .read _ _ => .read
  | .write _ _ _ => .write

/-- The function code of a response variant (R63). -/
def rspFc : ResponsePDU → FunctionCode
  | .manage _ _ _ => .manage
  | .command _ => .command
  | .read _ _ _ => .read
  | .write _ _ => .write

/-- `expected_response_len(req)` (43_control.md R171). -/
def expectedResponseLen (req : RequestPDU) : Nat := rspLen (reqFc req)

/-- The sub-function codes (30_encoding.md R73). -/
def subFunctionCode : SubFunction → U16
  | .enable => 0xFF00
  | .disable => 0x0000

/-- The sub-function a u16 is, if it is one (R73; 42_decode.md R146). -/
def subFunctionOf (s : U16) : Option SubFunction :=
  if s = 0xFF00 then some .enable else if s = 0x0000 then some .disable else none

/-- The Command sub-codes (30_encoding.md R65). -/
def subCode : CommandPayload → Byte
  | .forceControlStream _ => 0x1C
  | .positionControlStream _ => 0x1E
  | .kinematicDataStream => 0x20
  | .hapticDataStream _ => 0x22
  | .sleepDataStream => 0x00

/-- The Mode codes (30_encoding.md R78). -/
def modeCode : Mode → Byte
  | .sleepMode => 1
  | .forceMode => 2
  | .positionMode => 3
  | .hapticMode => 4
  | .kineticMode => 5
  | .pulseWidthMode => 11
  | .autoZeroingMode => 55

/-- `mode(m)` (42_decode.md R159, 30_encoding.md R79): the Mode, and whether an unknown byte was replaced. -/
def modeOf (m : Byte) : Mode × Bool :=
  if m = 1 then (.sleepMode, false)
  else if m = 2 then (.forceMode, false)
  else if m = 3 then (.positionMode, false)
  else if m = 4 then (.hapticMode, false)
  else if m = 5 then (.kineticMode, false)
  else if m = 11 then (.pulseWidthMode, false)
  else if m = 55 then (.autoZeroingMode, false)
  else (.sleepMode, true)

/-! ### ErrorFlags accessors (30_encoding.md R77), with ERRFLAG_POS as an argument (00_scope.md R5) -/

/-- `flag(e, f) = e[ERRFLAG_POS(f)]`. -/
def flag (pos : ErrFlagPos) (e : ErrorFlags) (f : ErrorFlag) : Bool := e.getLsbD (pos.at f).val

/-- `all_clear(e)`: every bit is tested. -/
def allClear (e : ErrorFlags) : Bool := e == 0x0000

/-! ### Serialisers (41_encode.md) -/

/-- `enc_req(req)` (R116 to R123). -/
def encReq : RequestPDU → Bytes
  | .manage s r d => [0x41] ++ putBe16 (subFunctionCode s) ++ putBe32 r ++ putBe16 d
  | .command (.forceControlStream f) => [0x64, 0x1C] ++ putBe32 f
  | .command (.positionControlStream p) => [0x64, 0x1E] ++ putBe32 p
  | .command .kinematicDataStream => [0x64, 0x20, 0x00, 0x00, 0x00, 0x00]
  | .command (.hapticDataStream h) => [0x64, 0x22] ++ putBe32 h
  | .command .sleepDataStream => [0x64, 0x00, 0x00, 0x00, 0x00, 0x00]
  | .read a w => [0x68] ++ putBe16 a ++ [w]
  | .write a w v => [0x69] ++ putBe16 a ++ [w] ++ putBe32 v

/-- `enc_body(cr)` (R124): every field big-endian, `error` little-endian (20_memory.md R44). -/
def encBody (cr : CommandResponse) : Bytes :=
  putBe32 cr.positionUm ++ putBe32 cr.forceMn ++ putBe16 cr.powerW ++ [cr.temperatureC] ++ putBe16 cr.voltageMv
    ++ putLe16 cr.error

/-- `enc_rsp(rsp)` (R125 to R128). -/
def encRsp : ResponsePDU → Bytes
  | .manage s r d => [0x41] ++ putBe16 s ++ putBe32 r ++ putBe16 d
  | .command cr => [0x64] ++ encBody cr
  | .read x m cr => [0x68] ++ putBe32 x ++ [modeCode m] ++ encBody cr
  | .write m cr => [0x69] ++ [modeCode m] ++ encBody cr

/-! ### Field parsers (42_decode.md) -/

/-- `body(B, k)` (R158). -/
def parseBody (B : Bytes) (k : Nat) : CommandResponse :=
  { positionUm := be32 B k, forceMn := be32 B (k + 4), powerW := be16 B (k + 8), temperatureC := byteAt B (k + 10),
    voltageMv := be16 B (k + 11), error := le16 B (k + 13) }

/-- The four reserved bytes `B[3..7)` are all zero: `z` of R147. -/
def reservedZero (B : Bytes) : Bool :=
  byteAt B 3 == 0 && byteAt B 4 == 0 && byteAt B 5 == 0 && byteAt B 6 == 0

/-- Whether the reserved bytes pass (R147): under `Ignore` they are not examined. -/
def reservedPasses (policy : ReservedPolicy) (B : Bytes) : Bool :=
  match policy with
  | .ignore => true
  | .reject => reservedZero B

/-- `parse_rsp(fc, B)` (R160 to R163): the response PDU and `defaulted`; it never fails. -/
def parseRsp (fc : FunctionCode) (B : Bytes) : ResponsePDU × Bool :=
  match fc with
  | .manage => (.manage (be16 B 2) (be32 B 4) (be16 B 8), false)
  | .command => (.command (parseBody B 2), false)
  | .read => (.read (be32 B 2) (modeOf (byteAt B 6)).1 (parseBody B 7), (modeOf (byteAt B 6)).2)
  | .write => (.write (modeOf (byteAt B 2)).1 (parseBody B 3), (modeOf (byteAt B 2)).2)

/-! ### Raw frame layouts: the tables of 30_encoding.md R64 to R72 and R81 to R84, CRC field included -/

/-- R64. -/
def reqManageFrame (addr : Byte) (s : U16) (r : U32) (d crc : U16) : Bytes :=
  [addr, 0x41] ++ putBe16 s ++ putBe32 r ++ putBe16 d ++ putLe16 crc

/-- R65: any Command request, by its sub-code byte and the four bytes after it. -/
def reqCommandFrame (addr sc : Byte) (v : U32) (crc : U16) : Bytes :=
  [addr, 0x64, sc] ++ putBe32 v ++ putLe16 crc

/-- R71. -/
def reqReadFrame (addr : Byte) (a : U16) (w : Byte) (crc : U16) : Bytes :=
  [addr, 0x68] ++ putBe16 a ++ [w] ++ putLe16 crc

/-- R72. -/
def reqWriteFrame (addr : Byte) (a : U16) (w : Byte) (v : U32) (crc : U16) : Bytes :=
  [addr, 0x69] ++ putBe16 a ++ [w] ++ putBe32 v ++ putLe16 crc

/-- R81. -/
def rspManageFrame (addr : Byte) (s : U16) (r : U32) (d crc : U16) : Bytes :=
  [addr, 0x41] ++ putBe16 s ++ putBe32 r ++ putBe16 d ++ putLe16 crc

/-- R82. -/
def rspCommandFrame (addr : Byte) (body : CommandResponse) (crc : U16) : Bytes :=
  [addr, 0x64] ++ encBody body ++ putLe16 crc

/-- R83, with the raw Mode byte. -/
def rspReadFrame (addr : Byte) (x : U32) (m : Byte) (body : CommandResponse) (crc : U16) : Bytes :=
  [addr, 0x68] ++ putBe32 x ++ [m] ++ encBody body ++ putLe16 crc

/-- R84, with the raw Mode byte. -/
def rspWriteFrame (addr : Byte) (m : Byte) (body : CommandResponse) (crc : U16) : Bytes :=
  [addr, 0x69, m] ++ encBody body ++ putLe16 crc

end Sys2Proof.Machine
end

