-- ==== Sys2Proof/WellFormed.lean ====
section
/-! DEFINITION. The one check an instruction's operands need (00_scope.md R6, 20_memory.md R41): a decode operand has
length 0 to 255. Every other operand is a typed value that always fits its field (41_encode.md, its first lines). -/

namespace Sys2Proof

/-- A byte sequence the interface can carry as a decode operand (R41; 92_eei_decisions.md D29). -/
def operandFits (frame : Bytes) : Bool := decide (frame.length ≤ 255)

/-- Well-formed instructions: those a host can issue or a wire can carry. -/
def Instr.wellFormed : Instr → Bool
  | .crcInit => true
  | .crcUpdate _ => true
  | .encodeReq _ _ => true
  | .encodeRsp _ _ => true
  | .decodeReq frame => operandFits frame
  | .decodeRsp frame => operandFits frame
  | .respLen _ => true
  | .abort => true
  | .reqManage _ _ _ _ _ => true
  | .reqCmdForce _ _ _ => true
  | .reqCmdPosition _ _ _ => true
  | .reqCmdKinematic _ _ _ => true
  | .reqCmdHaptic _ _ _ => true
  | .reqCmdSleep _ _ _ => true
  | .reqRead _ _ _ _ => true
  | .reqWrite _ _ _ _ _ => true
  | .rspManage _ _ _ _ _ => true
  | .rspCommand _ _ _ => true
  | .rspRead _ _ _ _ _ => true
  | .rspWrite _ _ _ _ => true

end Sys2Proof
end

