-- ==== Sys2Proof/Decode.lean ====
section
/-! DEFINITION. The decoders of the two encodings of 30_encoding.md, total on every input and rejecting by name, and the
encoder. The command decoder reads a command word (R61, R62). The frame decoders dispatch on the function code and the
Command sub-code (R63, R65) and pull the raw fields out of the frame. -/

namespace Sys2Proof
open Sys2Proof.Machine

/-- Why a host command is no instruction. -/
inductive CommandError where
  /-- an illegal command word (43_control.md R174); the machine gives it R174's effect -/
  | illegalCommand
  /-- a decode operand longer than 255 bytes (20_memory.md R41; 93_implementation_defined.md I13) -/
  | operandTooLong
deriving DecidableEq, Repr

/-- Why a byte sequence is no frame of the opcode table: the checks of 42_decode.md R142 to R145, in R141's order. -/
inductive FrameError where
  | frameTooShort
  | unknownFunctionCode
  | lengthMismatch
  | unknownSubCode
deriving DecidableEq, Repr

/-- Any rejection. -/
inductive DecodeError where
  | command (e : CommandError)
  | frame (e : FrameError)
deriving DecidableEq, Repr

/-- `CMD[7:4]`, reserved, must be 0 (R61). -/
def cmdReserved (cmd : Byte) : BitVec 4 := cmd.extractLsb' 4 4

/-- `CMD[3:0]` = `OPC` (R61). -/
def cmdOpc (cmd : Byte) : BitVec 4 := cmd.extractLsb' 0 4

/-- A decode command with its operand, if the interface can carry the operand (R41; I13). -/
def withOperand (frame : Bytes) (i : Bytes → Instr) : Except CommandError Instr :=
  if operandFits frame then .ok (i frame) else .error .operandTooLong

/-- The command decoder: the opcode map of R62. -/
def decodeCommand (c : HostCommand) : Except CommandError Instr :=
  if cmdReserved c.cmd ≠ 0 then .error .illegalCommand
  else
    match (cmdOpc c.cmd).toNat with
    | 0x1 => .ok .crcInit
    | 0x2 => .ok (.crcUpdate c.b)
    | 0x3 => .ok (.encodeReq c.addr c.req)
    | 0x4 => .ok (.encodeRsp c.addr c.rsp)
    | 0x5 => withOperand c.bytes .decodeReq
    | 0x6 => withOperand c.bytes .decodeRsp
    | 0x7 => .ok (.respLen c.req)
    | 0x8 => .ok .abort
    | _ => .error .illegalCommand

/-- The Command request frame a sub-code byte selects (R65; 42_decode.md R145). -/
def decodeCommandFrame (B : Bytes) : Except FrameError Instr :=
  let sc := byteAt B 2
  if sc = 0x1C then .ok (.reqCmdForce (byteAt B 0) (be32 B 3) (le16 B 7))
  else if sc = 0x1E then .ok (.reqCmdPosition (byteAt B 0) (be32 B 3) (le16 B 7))
  else if sc = 0x20 then .ok (.reqCmdKinematic (byteAt B 0) (be32 B 3) (le16 B 7))
  else if sc = 0x22 then .ok (.reqCmdHaptic (byteAt B 0) (be32 B 3) (le16 B 7))
  else if sc = 0x00 then .ok (.reqCmdSleep (byteAt B 0) (be32 B 3) (le16 B 7))
  else .error .unknownSubCode

/-- The request frame decoder (R64 to R72), after the checks of 42_decode.md R142 to R144. -/
def decodeRequestFrame (B : Bytes) : Except FrameError Instr :=
  if B.length < minReq then .error .frameTooShort
  else
    match fcOf (byteAt B 1) with
    | none => .error .unknownFunctionCode
    | some fc =>
      if B.length ≠ reqLen fc then .error .lengthMismatch
      else
        match fc with
        | .manage => .ok (.reqManage (byteAt B 0) (be16 B 2) (be32 B 4) (be16 B 8) (le16 B 10))
        | .command => decodeCommandFrame B
        | .read => .ok (.reqRead (byteAt B 0) (be16 B 2) (byteAt B 4) (le16 B 5))
        | .write => .ok (.reqWrite (byteAt B 0) (be16 B 2) (byteAt B 4) (be32 B 5) (le16 B 9))

/-- The response frame decoder (R81 to R84), after the same checks. -/
def decodeResponseFrame (B : Bytes) : Except FrameError Instr :=
  if B.length < minRsp then .error .frameTooShort
  else
    match fcOf (byteAt B 1) with
    | none => .error .unknownFunctionCode
    | some fc =>
      if B.length ≠ rspLen fc then .error .lengthMismatch
      else
        match fc with
        | .manage => .ok (.rspManage (byteAt B 0) (be16 B 2) (be32 B 4) (be16 B 8) (le16 B 10))
        | .command => .ok (.rspCommand (byteAt B 0) (parseBody B 2) (le16 B 17))
        | .read => .ok (.rspRead (byteAt B 0) (be32 B 2) (byteAt B 6) (parseBody B 7) (le16 B 22))
        | .write => .ok (.rspWrite (byteAt B 0) (byteAt B 2) (parseBody B 3) (le16 B 18))

/-- The decoder of either encoding. -/
def decode : Encoded → Except DecodeError Instr
  | .command c => (decodeCommand c).mapError .command
  | .requestFrame B => (decodeRequestFrame B).mapError .frame
  | .responseFrame B => (decodeResponseFrame B).mapError .frame

/-- What an operand slot holds that the opcode does not name, and what "operand words of zeros" are for typed
operands: every number 0, the request `Manage` with the code 0x0000, the empty byte sequence (log entries 3, 6). -/
def zeroOperands (cmd : Byte) : HostCommand :=
  { cmd := cmd, b := 0, addr := 0, req := .manage .disable 0 0, rsp := .manage 0 0 0, bytes := [] }

/-- The encoder: a command word with its operands (R62), or a frame (R64 to R72, R81 to R84). -/
def encode : Instr → Encoded
  | .crcInit => .command (zeroOperands 0x01)
  | .crcUpdate b => .command { zeroOperands 0x02 with b := b }
  | .encodeReq addr req => .command { zeroOperands 0x03 with addr := addr, req := req }
  | .encodeRsp addr rsp => .command { zeroOperands 0x04 with addr := addr, rsp := rsp }
  | .decodeReq frame => .command { zeroOperands 0x05 with bytes := frame }
  | .decodeRsp frame => .command { zeroOperands 0x06 with bytes := frame }
  | .respLen req => .command { zeroOperands 0x07 with req := req }
  | .abort => .command (zeroOperands 0x08)
  | .reqManage addr s r d crc => .requestFrame (reqManageFrame addr s r d crc)
  | .reqCmdForce addr f crc => .requestFrame (reqCommandFrame addr 0x1C f crc)
  | .reqCmdPosition addr p crc => .requestFrame (reqCommandFrame addr 0x1E p crc)
  | .reqCmdKinematic addr z crc => .requestFrame (reqCommandFrame addr 0x20 z crc)
  | .reqCmdHaptic addr h crc => .requestFrame (reqCommandFrame addr 0x22 h crc)
  | .reqCmdSleep addr z crc => .requestFrame (reqCommandFrame addr 0x00 z crc)
  | .reqRead addr a w crc => .requestFrame (reqReadFrame addr a w crc)
  | .reqWrite addr a w v crc => .requestFrame (reqWriteFrame addr a w v crc)
  | .rspManage addr s r d crc => .responseFrame (rspManageFrame addr s r d crc)
  | .rspCommand addr body crc => .responseFrame (rspCommandFrame addr body crc)
  | .rspRead addr x m body crc => .responseFrame (rspReadFrame addr x m body crc)
  | .rspWrite addr m body crc => .responseFrame (rspWriteFrame addr m body crc)

/-- The host command that gives the block an encoded instruction: a command is issued as it is, a frame is the operand
of the decode command of its direction (42_decode.md R157, R167). -/
def Encoded.issue : Encoded → HostCommand
  | .command c => c
  | .requestFrame B => { zeroOperands 0x05 with bytes := B }
  | .responseFrame B => { zeroOperands 0x06 with bytes := B }

/-- A frame of length `n` with the given bytes from offset 1 on and zeros elsewhere. -/
def keyFrame (n : Nat) (key : Bytes) : Bytes := (0 :: key) ++ List.replicate (n - (key.length + 1)) 0

/-- The length the function code byte fixes, 0 for a byte that is no function code. -/
def keyLen (len : FunctionCode → Nat) (b : Byte) : Nat := ((fcOf b).map len).getD 0

/-- The encoded form a word of spec/opcode_table.json stands for, every other bit 0 (log entry 6). A word of more than
8 bits holds PDU byte 0 in its bits 15:8 and PDU byte 1 in its bits 7:0, as the table's own note on the REQ_CMD rows
says, and is a request frame. A word of 8 bits is a legal command word if it is one. Otherwise it is PDU byte 0 of a
response frame: the table gives 0x41, 0x68 and 0x69 to a request row and a response row alike, and the word alone
cannot tell them apart. -/
def tableWord (nbits w : Nat) : Encoded :=
  if nbits > 8 then
    .requestFrame (keyFrame (keyLen reqLen (BitVec.ofNat 8 (w / 256))) [BitVec.ofNat 8 (w / 256), BitVec.ofNat 8 w])
  else
    match fcOf (BitVec.ofNat 8 w) with
    | some fc => .responseFrame (keyFrame (rspLen fc) [BitVec.ofNat 8 w])
    | none => .command (zeroOperands (BitVec.ofNat 8 w))

/-- The instruction the decoder reads from a word of spec/opcode_table.json. -/
def decodeTableWord (nbits w : Nat) : Option Instr := (decode (tableWord nbits w)).toOption

end Sys2Proof
end

