-- ==== Sys2Proof/Machine/Crc16.lean ====
section
/-! DEFINITION. The CRC-16/Modbus function (40_crc.md R100 to R102). -/

namespace Sys2Proof.Machine

/-- One of the eight turns of `crc16_step`'s loop (R100). -/
def crc16Shift (c : U16) : U16 := if c.getLsbD 0 then (c >>> 1) ^^^ 0xA001 else c >>> 1

/-- `repeat n times`. -/
def crc16Shifts : Nat → U16 → U16
  | 0, c => c
  | n + 1, c => crc16Shifts n (crc16Shift c)

/-- `crc16_step(c, b)` (R100). -/
def crc16Step (c : U16) (b : Byte) : U16 := crc16Shifts 8 (c ^^^ b.setWidth 16)

/-- `crc16(B)` (R100): from 0xFFFF, the bytes in wire order, no final XOR. -/
def crc16 (B : Bytes) : U16 := B.foldl crc16Step 0xFFFF

/-- The frame bytes the CRC covers: all but the last two (R102; 42_decode.md R148). -/
def crcCovered (B : Bytes) : Bytes := B.take (B.length - 2)

/-- The trailing little-endian u16 of a frame (R102; 20_memory.md R43). -/
def crcField (B : Bytes) : U16 := le16 B (B.length - 2)

/-- A frame is CRC-valid (R102). -/
def crcValid (B : Bytes) : Bool := decide (2 ≤ B.length) && crcField B == crc16 (crcCovered B)

end Sys2Proof.Machine
end

