-- ==== Sys2Proof/Machine/State.lean ====
section
/-! DEFINITION. The state of one block instance (10_state.md R21): the six registers, the parameters it was built with
(00_scope.md R5) and the host's events it has not executed yet (R20), as plain data; the outcomes that stop it. -/

namespace Sys2Proof.Machine

/-- The context of a pending request, `PEND`'s `some` (R23). -/
structure Pending where
  addr : Byte
  fc : Byte
  expLen : Byte
deriving DecidableEq, Repr

/-- The state of one instance. -/
structure State where
  /-- `CRC`, the CRC-16/Modbus accumulator (R22) -/
  crc : U16
  /-- `PEND`, the pending request's context; `none` is Idle (R23) -/
  pend : Option Pending
  /-- `TX`, the last frame encoded (R24) -/
  tx : Bytes
  /-- `DEC`, the last frame decoded successfully (R25) -/
  dec : Option DecodedADU
  /-- `LEN`, the last response length looked up (R26) -/
  len : Byte
  /-- `STATUS`, the result of the last command and its flags (R27) -/
  status : U16
  /-- the model's own: the parameters, which no step changes (log entry 1) -/
  cfg : Config
  /-- the model's own: what the host has issued and the block has not executed, oldest first (log entry 2) -/
  port : List HostEvent
deriving DecidableEq, Repr

/-- Reasons to stop with a fault. There is none: "The block has no traps" (60_exceptions.md R185); a failing command is
a next state whose STATUS.RESULT names the failure (log entry 12). -/
inductive Fault where
deriving DecidableEq, Repr

/-- Reasons to give an input no meaning. -/
inductive Refusal where
  /-- an instruction without a meaning; raised by an arm of `exec` only, and by none of this model (safe) -/
  | notModelled (mnemonic : String)
  /-- a decode operand longer than 255 bytes, which the interface cannot carry (20_memory.md R41;
  93_implementation_defined.md I13: "refuse at the interface"); raised by `step` (safe) -/
  | operandTooLong
deriving DecidableEq, Repr

/-- The state right after reset (R38, R210), with the parameters at their defaults (R5) and no command issued. -/
def State.reset : State :=
  { crc := 0xFFFF, pend := none, tx := [], dec := none, len := 0, status := 0x0000, cfg := Config.default, port := [] }

end Sys2Proof.Machine
end

