-- ==== Sys2Proof/Machine/Flags.lean ====
section
/-! DEFINITION. The result codes (60_exceptions.md R186) and STATUS: how a command's results are packed into it and how
its fields read (10_state.md R27 to R35). -/

namespace Sys2Proof.Machine

/-- The result codes (R186). Codes 12 to 15 are never produced. -/
inductive ResultCode where
  | ok
  | frameTooShort
  | checksumMismatch
  | unknownFunctionCode
  | lengthMismatch
  | unknownSubCode
  | invalidSubFunction
  | reservedNonzero
  | addressMismatch
  | unexpectedVariant
  | busy
  | illegalCommand
deriving DecidableEq, Repr

/-- The number of a result code (R186). -/
def ResultCode.code : ResultCode → BitVec 4
  | .ok => 0
  | .frameTooShort => 1
  | .checksumMismatch => 2
  | .unknownFunctionCode => 3
  | .lengthMismatch => 4
  | .unknownSubCode => 5
  | .invalidSubFunction => 6
  | .reservedNonzero => 7
  | .addressMismatch => 8
  | .unexpectedVariant => 9
  | .busy => 10
  | .illegalCommand => 11

/-- The flags only DECODE_RSP can set (R30 to R33). -/
structure RspFlags where
  ctx : Bool
  addrMatch : Bool
  variantMatch : Bool
  modeDefaulted : Bool
deriving DecidableEq, Repr

/-- "other flags 0": what every command but DECODE_RSP writes into bits 8:5 (R30 to R33, R35). -/
def RspFlags.clear : RspFlags := { ctx := false, addrMatch := false, variantMatch := false, modeDefaulted := false }

/-- STATUS from its fields (R27): bits 15:9 zero, MODE_DEFAULTED 8, VARIANT_MATCH 7, ADDR_MATCH 6, CTX 5, PENDING 4,
RESULT 3:0. -/
def packStatus (r : ResultCode) (pending : Bool) (f : RspFlags) : U16 :=
  0#7 ++ BitVec.ofBool f.modeDefaulted ++ BitVec.ofBool f.variantMatch ++ BitVec.ofBool f.addrMatch
    ++ BitVec.ofBool f.ctx ++ BitVec.ofBool pending ++ r.code

/-- `STATUS.RESULT`, bits 3:0. -/
def statusResult (v : U16) : BitVec 4 := v.extractLsb' 0 4

/-- `STATUS.PENDING`, bit 4. -/
def statusPending (v : U16) : Bool := v.getLsbD 4

/-- `STATUS.CTX`, bit 5. -/
def statusCtx (v : U16) : Bool := v.getLsbD 5

/-- `STATUS.ADDR_MATCH`, bit 6. -/
def statusAddrMatch (v : U16) : Bool := v.getLsbD 6

/-- `STATUS.VARIANT_MATCH`, bit 7. -/
def statusVariantMatch (v : U16) : Bool := v.getLsbD 7

/-- `STATUS.MODE_DEFAULTED`, bit 8. -/
def statusModeDefaulted (v : U16) : Bool := v.getLsbD 8

/-- `STATUS[15:9]`, reserved (R34). -/
def statusReserved (v : U16) : BitVec 7 := v.extractLsb' 9 7

/-- STATUS as a command leaves it that sets no flag of DECODE_RSP: RESULT, and PENDING as the mirror of `pend` (R29). -/
def plainStatus (r : ResultCode) (pend : Option Pending) : U16 := packStatus r pend.isSome .clear

end Sys2Proof.Machine
end

