-- ==== Sys2Proof/Machine/Ops.lean ====
section
/-! DEFINITION. The operations the commands share: building a frame (41_encode.md R129), `dec_req` (42_decode.md R157),
`dec_rsp` (R164), ending a command with a result code (60_exceptions.md R185, R192), the register writes of the
commands, and taking the host's next event. -/

namespace Sys2Proof.Machine

/-! ### Frames -/

/-- `frame(a, pdu_bytes)` (R129; 40_crc.md R102). -/
def frame (addr : Byte) (pduBytes : Bytes) : Bytes := (addr :: pduBytes) ++ putLe16 (crc16 (addr :: pduBytes))

/-! ### The frame decoders -/

/-- The Command request `B[2]` selects (42_decode.md R145, R147, R150 to R154). -/
def parseReqCommand (policy : ReservedPolicy) (B : Bytes) : Except ResultCode RequestPDU :=
  let sc := byteAt B 2
  if sc = 0x1C then .ok (.command (.forceControlStream (be32 B 3)))
  else if sc = 0x1E then .ok (.command (.positionControlStream (be32 B 3)))
  else if sc = 0x20 then
    if reservedPasses policy B then .ok (.command .kinematicDataStream) else .error .reservedNonzero
  else if sc = 0x22 then .ok (.command (.hapticDataStream (be32 B 3)))
  else if sc = 0x00 then
    if reservedPasses policy B then .ok (.command .sleepDataStream) else .error .reservedNonzero
  else .error .unknownSubCode

/-- `parse_req(fc, B)` (R149 to R156). -/
def parseReq (policy : ReservedPolicy) (fc : FunctionCode) (B : Bytes) : Except ResultCode RequestPDU :=
  match fc with
  | .manage =>
    match subFunctionOf (be16 B 2) with
    | none => .error .invalidSubFunction
    | some s => .ok (.manage s (be32 B 4) (be16 B 8))
  | .command => parseReqCommand policy B
  | .read => .ok (.read (be16 B 2) (byteAt B 4))
  | .write => .ok (.write (be16 B 2) (byteAt B 4) (be32 B 5))

/-- Checks 1 to 3 of R141, in that order, with the direction's minimum and lengths (R142 to R144). -/
def frameFc (min : Nat) (len : FunctionCode → Nat) (B : Bytes) : Except ResultCode FunctionCode :=
  if B.length < min then .error .frameTooShort
  else
    match fcOf (byteAt B 1) with
    | none => .error .unknownFunctionCode
    | some fc => if B.length ≠ len fc then .error .lengthMismatch else .ok fc

/-- Check 5 of R141 (R148), then the result. -/
def afterCrc {α : Type} (B : Bytes) (x : α) : Except ResultCode α :=
  if crcField B ≠ crc16 (crcCovered B) then .error .checksumMismatch else .ok x

/-- `dec_req(B)` (R157). -/
def decReq (policy : ReservedPolicy) (B : Bytes) : Except ResultCode DecodedADU :=
  match frameFc minReq reqLen B with
  | .error c => .error c
  | .ok fc =>
    match parseReq policy fc B with
    | .error c => .error c
    | .ok pdu => afterCrc B (.req (byteAt B 0) pdu)

/-- `dec_rsp(B)` (R164): the decoded ADU and `defaulted`. -/
def decRsp (B : Bytes) : Except ResultCode (DecodedADU × Bool) :=
  match frameFc minRsp rspLen B with
  | .error c => .error c
  | .ok fc => afterCrc B (.rsp (byteAt B 0) (parseRsp fc B).1, (parseRsp fc B).2)

/-! ### Ending a command -/

/-- The final step of every command (10_state.md R35): all of STATUS is written, with the result code, PENDING as the
mirror of `PEND` and the flags of DECODE_RSP. `fail <Code>` (00_scope.md R10; 60_exceptions.md R185) is this with a
code other than OK: what stands here in the place of taking an exception. -/
def State.report (s : State) (r : ResultCode) (f : RspFlags) : State := { s with status := packStatus r s.pend.isSome f }

/-- A command that ends with `OK` or a failure and sets no flag of DECODE_RSP. -/
def State.finish (s : State) (r : ResultCode) : State := s.report r .clear

/-! ### Register writes of the commands -/

/-- ENCODE_REQ (41_encode.md R130). -/
def State.encodeRequest (s : State) (addr : Byte) (req : RequestPDU) : State :=
  match s.pend with
  | some _ => s.finish .busy
  | none =>
    let tx := frame addr (encReq req)
    { s with
      tx := tx
      pend := some { addr := addr, fc := byteAt tx 1, expLen := BitVec.ofNat 8 (expectedResponseLen req) } }.finish .ok

/-- DECODE_REQ (42_decode.md R157). -/
def State.decodeRequest (s : State) (B : Bytes) : State :=
  match decReq s.cfg.reservedPolicy B with
  | .error c => { s with dec := none }.finish c
  | .ok adu => { s with dec := some adu }.finish .ok

/-- The slave address of a decoded ADU. -/
def aduAddr : DecodedADU → Byte
  | .req addr _ => addr
  | .rsp addr _ => addr

/-- A DECODE_RSP that delivers nothing (R167; 60_exceptions.md R192): `DEC <- none`, and the code with its flags. -/
def State.rejectResponse (s : State) (r : ResultCode) (f : RspFlags) : State := { s with dec := none }.report r f

/-- The address and variant checks of DECODE_RSP against a context (R165, R166), and the delivery. `s` has `PEND`
closed already; `vm` is `B[1] == p.fc`. -/
def State.checkContext (s : State) (p : Pending) (vm : Bool) (adu : DecodedADU) (defaulted : Bool) : State :=
  if aduAddr adu ≠ p.addr then
    s.rejectResponse .addressMismatch { ctx := true, addrMatch := false, variantMatch := false, modeDefaulted := false }
  else if !vm && s.cfg.strictVariant then
    s.rejectResponse .unexpectedVariant { ctx := true, addrMatch := true, variantMatch := false, modeDefaulted := false }
  else
    { s with dec := some adu }.report .ok
      { ctx := true, addrMatch := true, variantMatch := vm, modeDefaulted := defaulted }

/-- DECODE_RSP (R167). -/
def State.decodeResponse (s : State) (B : Bytes) : State :=
  let closed := { s with pend := none }
  match decRsp B with
  | .error c =>
    closed.rejectResponse c
      { ctx := s.pend.isSome, addrMatch := false, variantMatch := false, modeDefaulted := false }
  | .ok (adu, d) =>
    match s.pend with
    | some p => closed.checkContext p (byteAt B 1 == p.fc) adu d
    | none =>
      { closed with dec := some adu }.report .ok
        { ctx := false, addrMatch := false, variantMatch := false, modeDefaulted := d }

/-- An illegal command word (43_control.md R174): only STATUS changes. -/
def State.illegalCommand (s : State) : State := s.finish .illegalCommand

/-! ### The host's side -/

/-- The host resets the block (70_reset_and_hazards.md R210): the six registers take the values of R38. The parameters
and what the host has still issued are no registers and stay. -/
def State.hostReset (s : State) : State := { State.reset with cfg := s.cfg, port := s.port }

/-- The host's next event and the state in which the block executes it, if the host has issued one. -/
def State.nextEvent (s : State) : Option (HostEvent × State) :=
  match s.port with
  | [] => none
  | e :: rest => some (e, { s with port := rest })

/-- The host issues a command that the block executes next (log entry 2). -/
def State.issue (s : State) (c : HostCommand) : State := { s with port := .command c :: s.port }

end Sys2Proof.Machine
end

