-- ==== Sys2Proof/Machine/Control.lean ====
section
/-! DEFINITION. RESP_LEN and ABORT (43_control.md R172, R173). -/

namespace Sys2Proof.Machine

/-- RESP_LEN (R172). -/
def execRespLen (req : RequestPDU) (s : State) : Host.Outcome State Fault Refusal :=
  .next ({ s with len := BitVec.ofNat 8 (expectedResponseLen req) }.finish .ok)

/-- ABORT (R173). -/
def execAbort (s : State) : Host.Outcome State Fault Refusal := .next ({ s with pend := none }.finish .ok)

end Sys2Proof.Machine
end

