-- ==== Sys2Proof/Machine/CrcCommands.lean ====
section
/-! DEFINITION. CRC_INIT and CRC_UPDATE (40_crc.md R103, R104). -/

namespace Sys2Proof.Machine

/-- CRC_INIT (R103). -/
def execCrcInit (s : State) : Host.Outcome State Fault Refusal := .next ({ s with crc := 0xFFFF }.finish .ok)

/-- CRC_UPDATE (R104). -/
def execCrcUpdate (b : Byte) (s : State) : Host.Outcome State Fault Refusal :=
  .next ({ s with crc := crc16Step s.crc b }.finish .ok)

end Sys2Proof.Machine
end

