-- ==== Sys2Proof/Machine/Decoding.lean ====
section
/-! DEFINITION. DECODE_REQ and DECODE_RSP (42_decode.md R157, R167). -/

namespace Sys2Proof.Machine

/-- DECODE_REQ (R157). -/
def execDecodeReq (B : Bytes) (s : State) : Host.Outcome State Fault Refusal := .next (s.decodeRequest B)

/-- DECODE_RSP (R167). -/
def execDecodeRsp (B : Bytes) (s : State) : Host.Outcome State Fault Refusal := .next (s.decodeResponse B)

end Sys2Proof.Machine
end

