-- ==== Sys2Proof/Machine/Encoding.lean ====
section
/-! DEFINITION. ENCODE_REQ and ENCODE_RSP (41_encode.md R130, R131). -/

namespace Sys2Proof.Machine

/-- ENCODE_REQ (R130): BUSY while a request is pending, else the frame and its context. -/
def execEncodeReq (addr : Byte) (req : RequestPDU) (s : State) : Host.Outcome State Fault Refusal :=
  .next (s.encodeRequest addr req)

/-- ENCODE_RSP (R131). -/
def execEncodeRsp (addr : Byte) (rsp : ResponsePDU) (s : State) : Host.Outcome State Fault Refusal :=
  .next ({ s with tx := frame addr (encRsp rsp) }.finish .ok)

end Sys2Proof.Machine
end

