-- ==== Sys2Proof/Machine/RequestFrames.lean ====
section
/-! DEFINITION. The request frames of the wire encoding as instructions: what DECODE_REQ (42_decode.md R157) does with
the frame that has these raw fields (R149 to R156; log entry 5). -/

namespace Sys2Proof.Machine

/-- REQ_MANAGE (R149, R146). -/
def execReqManage (addr : Byte) (sf : U16) (r : U32) (d crc : U16) (s : State) : Host.Outcome State Fault Refusal :=
  .next (s.decodeRequest (reqManageFrame addr sf r d crc))

/-- REQ_CMD_FORCE (R150). -/
def execReqCmdForce (addr : Byte) (f : I32) (crc : U16) (s : State) : Host.Outcome State Fault Refusal :=
  .next (s.decodeRequest (reqCommandFrame addr 0x1C f crc))

/-- REQ_CMD_POSITION (R151). -/
def execReqCmdPosition (addr : Byte) (p : I32) (crc : U16) (s : State) : Host.Outcome State Fault Refusal :=
  .next (s.decodeRequest (reqCommandFrame addr 0x1E p crc))

/-- REQ_CMD_KINEMATIC (R152, R147). -/
def execReqCmdKinematic (addr : Byte) (z : U32) (crc : U16) (s : State) : Host.Outcome State Fault Refusal :=
  .next (s.decodeRequest (reqCommandFrame addr 0x20 z crc))

/-- REQ_CMD_HAPTIC (R153). -/
def execReqCmdHaptic (addr : Byte) (h : U32) (crc : U16) (s : State) : Host.Outcome State Fault Refusal :=
  .next (s.decodeRequest (reqCommandFrame addr 0x22 h crc))

/-- REQ_CMD_SLEEP (R154, R147). -/
def execReqCmdSleep (addr : Byte) (z : U32) (crc : U16) (s : State) : Host.Outcome State Fault Refusal :=
  .next (s.decodeRequest (reqCommandFrame addr 0x00 z crc))

/-- REQ_READ (R155). -/
def execReqRead (addr : Byte) (a : U16) (w : Byte) (crc : U16) (s : State) : Host.Outcome State Fault Refusal :=
  .next (s.decodeRequest (reqReadFrame addr a w crc))

/-- REQ_WRITE (R156). -/
def execReqWrite (addr : Byte) (a : U16) (w : Byte) (v : U32) (crc : U16) (s : State) :
    Host.Outcome State Fault Refusal :=
  .next (s.decodeRequest (reqWriteFrame addr a w v crc))

end Sys2Proof.Machine
end

