-- ==== Sys2Proof/Machine/ResponseFrames.lean ====
section
/-! DEFINITION. The response frames of the wire encoding as instructions: what DECODE_RSP (42_decode.md R167) does with
the frame that has these raw fields (R160 to R163; log entry 5). -/

namespace Sys2Proof.Machine

/-- RSP_MANAGE (R160). -/
def execRspManage (addr : Byte) (sc : U16) (r : U32) (d crc : U16) (s : State) : Host.Outcome State Fault Refusal :=
  .next (s.decodeResponse (rspManageFrame addr sc r d crc))

/-- RSP_COMMAND (R161). -/
def execRspCommand (addr : Byte) (body : CommandResponse) (crc : U16) (s : State) :
    Host.Outcome State Fault Refusal :=
  .next (s.decodeResponse (rspCommandFrame addr body crc))

/-- RSP_READ (R162, R159). -/
def execRspRead (addr : Byte) (x : U32) (m : Byte) (body : CommandResponse) (crc : U16) (s : State) :
    Host.Outcome State Fault Refusal :=
  .next (s.decodeResponse (rspReadFrame addr x m body crc))

/-- RSP_WRITE (R163, R159). -/
def execRspWrite (addr : Byte) (m : Byte) (body : CommandResponse) (crc : U16) (s : State) :
    Host.Outcome State Fault Refusal :=
  .next (s.decodeResponse (rspWriteFrame addr m body crc))

end Sys2Proof.Machine
end

