-- ==== Sys2Proof/Machine/Dispatch.lean ====
section
/-! DEFINITION. One arm per instruction, each a call of its meaning. -/

namespace Sys2Proof.Machine

/-- The meaning of an instruction: the rule each constructor of `Instr` names. -/
def exec (i : Instr) (s : State) : Host.Outcome State Fault Refusal :=
  match i with
  | .crcInit => Sys2Proof.Machine.execCrcInit s
  | .crcUpdate b => Sys2Proof.Machine.execCrcUpdate b s
  | .encodeReq addr req => Sys2Proof.Machine.execEncodeReq addr req s
  | .encodeRsp addr rsp => Sys2Proof.Machine.execEncodeRsp addr rsp s
  | .decodeReq frame => Sys2Proof.Machine.execDecodeReq frame s
  | .decodeRsp frame => Sys2Proof.Machine.execDecodeRsp frame s
  | .respLen req => Sys2Proof.Machine.execRespLen req s
  | .abort => Sys2Proof.Machine.execAbort s
  | .reqManage addr sf r d crc => Sys2Proof.Machine.execReqManage addr sf r d crc s
  | .reqCmdForce addr f crc => Sys2Proof.Machine.execReqCmdForce addr f crc s
  | .reqCmdPosition addr p crc => Sys2Proof.Machine.execReqCmdPosition addr p crc s
  | .reqCmdKinematic addr z crc => Sys2Proof.Machine.execReqCmdKinematic addr z crc s
  | .reqCmdHaptic addr h crc => Sys2Proof.Machine.execReqCmdHaptic addr h crc s
  | .reqCmdSleep addr z crc => Sys2Proof.Machine.execReqCmdSleep addr z crc s
  | .reqRead addr a w crc => Sys2Proof.Machine.execReqRead addr a w crc s
  | .reqWrite addr a w v crc => Sys2Proof.Machine.execReqWrite addr a w v crc s
  | .rspManage addr sc r d crc => Sys2Proof.Machine.execRspManage addr sc r d crc s
  | .rspCommand addr body crc => Sys2Proof.Machine.execRspCommand addr body crc s
  | .rspRead addr x m body crc => Sys2Proof.Machine.execRspRead addr x m body crc s
  | .rspWrite addr m body crc => Sys2Proof.Machine.execRspWrite addr m body crc s

end Sys2Proof.Machine
end

