-- ==== Sys2Proof/Machine/Step.lean ====
section
/-! DEFINITION. One step of the block: it executes the host's next event (10_state.md R20). -/

namespace Sys2Proof.Machine

/-- Execute one host command: the instruction it decodes to, or R174's effect for an illegal word. -/
def runCommand (c : HostCommand) (s : State) : Host.Outcome State Fault Refusal :=
  match decodeCommand c with
  | .ok i => exec i s
  | .error .illegalCommand => .next s.illegalCommand
  | .error .operandTooLong => .refused .operandTooLong

/-- One step. "The block does nothing between commands" (R20): with nothing issued the state stays as it is. -/
def step (s : State) : Host.Outcome State Fault Refusal :=
  match s.nextEvent with
  | none => .next s
  | some (.reset, s') => .next s'.hostReset
  | some (.command c, s') => runCommand c s'

/-- `s` with the instruction of a table word issued as the next command (log entry 6): a command word as it is, a frame
as the operand of the decode command of its direction. -/
def State.withFetchWord (s : State) (nbits w : Nat) : State := s.issue (tableWord nbits w).issue

end Sys2Proof.Machine
end

