-- ==== Sys2Proof/Machine/Instances.lean ====
section
/-! DEFINITION. Several instances of the block (20_memory.md R54; 60_exceptions.md R197): each has its own registers and
its own host commands; which instance steps next is the hosts' affair, so it is an argument. -/

namespace Sys2Proof.Machine

/-- The instances, one per serial endpoint or device. -/
abbrev Bank := List State

/-- One step of instance `k`; a number that names no instance steps none. -/
def bankStep (k : Nat) (bank : Bank) : Host.Outcome Bank Fault Refusal :=
  match bank[k]? with
  | none => .next bank
  | some s =>
    match step s with
    | .next s' => .next (bank.set k s')
    | .fault r => .fault r
    | .refused r => .refused r

end Sys2Proof.Machine
end

