-- ==== Sys2Proof/Machine/Pseudo.lean ====
section
/-! DEFINITION. The pseudo-commands (30_encoding.md R91): each is a fixed sequence of commands, here the host events it
issues. The host's link actions between them (writing TX, reading the reply `reply`) are outside the block. -/

namespace Sys2Proof.Machine

/-- The host event that issues an instruction. -/
def issueInstr (i : Instr) : HostEvent := .command (encode i).issue

/-- `CRC_OF b0 ... bk`. -/
def crcOf (B : Bytes) : List HostEvent := issueInstr .crcInit :: B.map fun b => issueInstr (.crcUpdate b)

/-- `HS_ROUNDTRIP a, req`, with the bytes the host read from the link. -/
def hsRoundtrip (a : Byte) (req : RequestPDU) (reply : Bytes) : List HostEvent :=
  [issueInstr (.encodeReq a req), issueInstr (.decodeRsp reply)]

/-- `HS_ENABLE a, baud, delay`. -/
def hsEnable (a : Byte) (baud : U32) (delay : U16) (reply : Bytes) : List HostEvent :=
  hsRoundtrip a (.manage .enable baud delay) reply

/-- `HS_DISABLE a`: default baud and delay fields (zero). -/
def hsDisable (a : Byte) (reply : Bytes) : List HostEvent := hsRoundtrip a (.manage .disable 0 0) reply

/-- `HS_POSITION a, p`. -/
def hsPosition (a : Byte) (p : I32) (reply : Bytes) : List HostEvent :=
  hsRoundtrip a (.command (.positionControlStream p)) reply

/-- `HS_ROUNDTRIP` whose read timed out: the host issues ABORT in the place of DECODE_RSP (R91, R215). -/
def hsTimedOut (a : Byte) (req : RequestPDU) : List HostEvent := [issueInstr (.encodeReq a req), issueInstr .abort]

end Sys2Proof.Machine
end

