-- ==== Sys2Proof/Safety.lean ====
section
/-! DEFINITION. What holds of the registers between commands, in the terms the statements use. -/

namespace Sys2Proof

/-- The instruction decodes a request frame: DECODE_REQ, or a request row. -/
def Instr.decodesRequest : Instr → Bool
  | .decodeReq _ | .reqManage _ _ _ _ _ | .reqCmdForce _ _ _ | .reqCmdPosition _ _ _ | .reqCmdKinematic _ _ _
  | .reqCmdHaptic _ _ _ | .reqCmdSleep _ _ _ | .reqRead _ _ _ _ | .reqWrite _ _ _ _ _ => true
  | .crcInit | .crcUpdate _ | .encodeReq _ _ | .encodeRsp _ _ | .decodeRsp _ | .respLen _ | .abort
  | .rspManage _ _ _ _ _ | .rspCommand _ _ _ | .rspRead _ _ _ _ _ | .rspWrite _ _ _ _ => false

/-- The instruction decodes a response frame: DECODE_RSP, or a response row. -/
def Instr.decodesResponse : Instr → Bool
  | .decodeRsp _ | .rspManage _ _ _ _ _ | .rspCommand _ _ _ | .rspRead _ _ _ _ _ | .rspWrite _ _ _ _ => true
  | .crcInit | .crcUpdate _ | .encodeReq _ _ | .encodeRsp _ _ | .decodeReq _ | .respLen _ | .abort
  | .reqManage _ _ _ _ _ | .reqCmdForce _ _ _ | .reqCmdPosition _ _ _ | .reqCmdKinematic _ _ _
  | .reqCmdHaptic _ _ _ | .reqCmdSleep _ _ _ | .reqRead _ _ _ _ | .reqWrite _ _ _ _ _ => false

end Sys2Proof

namespace Sys2Proof.Machine

/-- The frame lengths the block produces (10_state.md R24, 30_encoding.md R85). -/
def producedLengths : List Nat := [7, 9, 11, 12, 19, 20, 24]

/-- `TX` is empty or a CRC-valid frame of a produced length (R24, R102). -/
def State.txLegal (s : State) : Prop := s.tx = [] ∨ (s.tx.length ∈ producedLengths ∧ crcValid s.tx = true)

/-- A pending context holds a function code and that code's response length (R23). -/
def Pending.legal (p : Pending) : Prop := ∃ fc : FunctionCode, p.fc = fcCode fc ∧ p.expLen = BitVec.ofNat 8 (rspLen fc)

/-- `PEND` is Idle or holds a legal context (R23). -/
def State.pendLegal (s : State) : Prop := ∀ p, s.pend = some p → p.legal

/-- `LEN` is 0 or a response length (R26). -/
def State.lenLegal (s : State) : Prop := s.len ∈ ([0, 12, 19, 20, 24] : List Byte)

/-- STATUS between commands: PENDING mirrors `PEND` (R29), RESULT is a code (R28), the reserved bits are 0 (R34), and
the flags of DECODE_RSP stand in the order R30 to R33 sets them. -/
structure StatusLegal (s : State) : Prop where
  pendingMirrors : statusPending s.status = s.pend.isSome
  resultIsCode : (statusResult s.status).toNat ≤ 11
  reservedZero : statusReserved s.status = 0
  ctxClosed : statusCtx s.status = true → s.pend = none
  addrNeedsCtx : statusAddrMatch s.status = true → statusCtx s.status = true
  variantNeedsAddr : statusVariantMatch s.status = true → statusAddrMatch s.status = true
  variantDelivers : statusVariantMatch s.status = true → s.dec.isSome = true ∧ statusResult s.status = ResultCode.ok.code
  defaultedDelivers : statusModeDefaulted s.status = true →
    statusResult s.status = ResultCode.ok.code ∧
      ∃ addr body, (∃ x, s.dec = some (.rsp addr (.read x .sleepMode body))) ∨
        s.dec = some (.rsp addr (.write .sleepMode body))

/-- The invariant of the block: what every state between commands satisfies. -/
structure State.Inv (s : State) : Prop where
  tx : s.txLegal
  pend : s.pendLegal
  len : s.lenLegal
  status : StatusLegal s

/-- A list of instructions executed one after the other. -/
def execAll : List Instr → State → Host.Outcome State Fault Refusal
  | [], s => .next s
  | i :: rest, s =>
    match exec i s with
    | .next s' => execAll rest s'
    | .fault r => .fault r
    | .refused r => .refused r

/-- A byte sequence with bit `k` flipped: bit `k mod 8` of the byte at offset `k div 8` (42_decode.md R169). -/
def flipBit (B : Bytes) (k : Nat) : Bytes := B.set (k / 8) (byteAt B (k / 8) ^^^ (1#8 <<< (k % 8)))

/-- A request frame that passes steps 1 to 4 of 42_decode.md R141, written out from the tables (R64 to R72, R145 to
R147). -/
def requestFieldsPass (policy : ReservedPolicy) (B : Bytes) : Prop :=
  (B.length = 12 ∧ byteAt B 1 = 0x41 ∧ (be16 B 2 = 0xFF00 ∨ be16 B 2 = 0x0000)) ∨
  (B.length = 9 ∧ byteAt B 1 = 0x64 ∧ byteAt B 2 ∈ ([0x1C, 0x1E, 0x22] : List Byte)) ∨
  (B.length = 9 ∧ byteAt B 1 = 0x64 ∧ byteAt B 2 ∈ ([0x20, 0x00] : List Byte) ∧
    (policy = .reject → (B.drop 3).take 4 = [0, 0, 0, 0])) ∨
  (B.length = 7 ∧ byteAt B 1 = 0x68) ∨
  (B.length = 11 ∧ byteAt B 1 = 0x69)

/-- A response frame that passes steps 1 to 4 of R141 (R81 to R84, R164). -/
def responseFieldsPass (B : Bytes) : Prop :=
  (B.length = 12 ∧ byteAt B 1 = 0x41) ∨ (B.length = 19 ∧ byteAt B 1 = 0x64) ∨
  (B.length = 24 ∧ byteAt B 1 = 0x68) ∨ (B.length = 20 ∧ byteAt B 1 = 0x69)

/-- A byte that is one of the four function codes (30_encoding.md R88). -/
def knownCodes : List Byte := [0x41, 0x64, 0x68, 0x69]

/-- An illegal command word, as 43_control.md R174 says it. -/
def illegalWord (cmd : Byte) : Prop :=
  cmd.extractLsb' 4 4 ≠ 0 ∨ cmd.extractLsb' 0 4 ∈ ([0x0, 0x9, 0xA, 0xB, 0xC, 0xD, 0xE, 0xF] : List (BitVec 4))

end Sys2Proof.Machine
end

