-- ==== Sys2Proof/Certificates/Slice0/Obligations.lean ====
section
/-! DEFINITION. The statements for the provers, each formalising rules of spec/. -/

open Sys2Proof Sys2Proof.Machine

/-! ### Helpers of the statements -/

/-- A DECODE_REQ of `B` that fails with `c` (42_decode.md R157, 60_exceptions.md R192). -/
def RequestFails (s : State) (i : Instr) (c : ResultCode) : Prop :=
  exec i s = .next { s with dec := none, status := plainStatus c s.pend }

/-- A request frame that decodes to `pdu` from address `addr` (R157). -/
def RequestDelivered (s : State) (i : Instr) (addr : Byte) (pdu : RequestPDU) : Prop :=
  exec i s = .next { s with dec := some (.req addr pdu), status := plainStatus .ok s.pend }

/-- A response frame that delivers `adu` and `defaulted`, without a context and for a context of its own address and
function code (R167): STATUS is OK with MODE_DEFAULTED, and CTX, ADDR_MATCH and VARIANT_MATCH where there was one. -/
def ResponseDelivered (i : Instr) (addr fc : Byte) (pdu : ResponsePDU) (defaulted : Bool) : Prop :=
  (∀ s : State, s.pend = none →
    exec i s = .next { s with dec := some (.rsp addr pdu), status := if defaulted then 0x0100 else 0x0000 }) ∧
  (∀ (s : State) (p : Pending), s.pend = some p → p.addr = addr → p.fc = fc →
    exec i s = .next
      { s with pend := none, dec := some (.rsp addr pdu), status := if defaulted then 0x01E0 else 0x00E0 })

/-- A response frame that `dec_rsp` rejects with `c`: the context is closed and only CTX tells of it (R167). -/
def ResponseFails (s : State) (i : Instr) (c : ResultCode) : Prop :=
  exec i s = .next
    { s with pend := none, dec := none, status := packStatus c false ⟨s.pend.isSome, false, false, false⟩ }

/-- The CommandResponse fields at frame offset `k`, as the table of 30_encoding.md R80 places them. -/
def bodyFields (B : Bytes) (k : Nat) : CommandResponse :=
  { positionUm := be32 B k, forceMn := be32 B (k + 4), powerW := be16 B (k + 8), temperatureC := byteAt B (k + 10),
    voltageMv := be16 B (k + 11), error := byteAt B (k + 14) ++ byteAt B (k + 13) }

/-- The Mode codes (30_encoding.md R78). -/
def knownModes : List Byte := [1, 2, 3, 4, 5, 11, 55]

/-! ### The CRC generator (40_crc.md) -/

/-- R103: CRC_INIT, in every state; issuing it twice is the same as issuing it once. -/
def Obligations.CrcInitSetsInitialValue : Prop :=
  (∀ c : HostCommand, c.cmd = 0x01 → decodeCommand c = .ok .crcInit) ∧
  (∀ s : State, exec .crcInit s = .next { s with crc := 0xFFFF, status := plainStatus .ok s.pend }) ∧
  (∀ s : State, execAll [.crcInit, .crcInit] s = execAll [.crcInit] s)

/-- R104: CRC_UPDATE folds one byte into CRC and changes nothing else but STATUS; after CRC_INIT and the bytes of `B`,
CRC is `crc16(B)`, which the spec marks as its own inference ("[derived: from rule R101 item 2]"); and the rule's three
worked values. -/
def Obligations.CrcUpdateFoldsBytes : Prop :=
  (∀ c : HostCommand, c.cmd = 0x02 → decodeCommand c = .ok (.crcUpdate c.b)) ∧
  (∀ (s : State) (b : Byte),
    exec (.crcUpdate b) s = .next { s with crc := crc16Step s.crc b, status := plainStatus .ok s.pend }) ∧
  (∀ (s : State) (B : Bytes), execAll (.crcInit :: B.map .crcUpdate) s =
    .next { s with crc := crc16 B, status := plainStatus .ok s.pend }) ∧
  crc16Step 0xFFFF 0x00 = 0x40BF ∧ crc16Step 0xFFFF 0xFF = 0x00FF ∧ crc16Step 0xFFFF 0x01 = 0x807E

/-- R91, R104: the pseudo-command CRC_OF, issued at the port, leaves `crc16(B)` in CRC. -/
def Obligations.CrcOfLeavesCrc16 : Prop :=
  ∀ (s : State) (B : Bytes) (rest : List HostEvent), s.port = crcOf B ++ rest →
    core.run (B.length + 1) s = .next { s with crc := crc16 B, status := plainStatus .ok s.pend, port := rest }

/-- R101: `crc16` is a left fold of `crc16_step` from 0xFFFF; the step is a bijection for each byte and injective in
the byte; so two sequences that differ in exactly one byte have different CRCs, and a flipped bit of a CRC-valid
frame's non-CRC region is seen. The spec marks these laws as its own inference from R100. -/
def Obligations.Crc16Laws : Prop :=
  crc16 [] = 0xFFFF ∧
  (∀ (A : Bytes) (b : Byte), crc16 (A ++ [b]) = crc16Step (crc16 A) b) ∧
  (∀ b : Byte, Function.Bijective fun c => crc16Step c b) ∧
  (∀ c : U16, Function.Injective (crc16Step c)) ∧
  (∀ (A C : Bytes) (b b' : Byte), b ≠ b' → crc16 (A ++ b :: C) ≠ crc16 (A ++ b' :: C)) ∧
  (∀ (F : Bytes) (k : Nat), crcValid F = true → k / 8 < F.length - 2 → crcValid (flipBit F k) = false)

/-- R100: the shift-right procedure with 0xA001 is the reflected form of polynomial 0x8005: seen bit-reversed, one turn
of the loop shifts left and, when a 1 leaves at the top, XORs 0x8005. The procedure is the spec's general knowledge
(93_implementation_defined.md I2; log entry 10). -/
def Obligations.CrcShiftReflectsPolynomial : Prop :=
  ∀ c : U16, (crc16Shift c).reverse =
    if c.reverse.msb then (c.reverse <<< 1) ^^^ 0x8005#16 else c.reverse <<< 1

/-- R102: `P` followed by `crc16(P)`, low byte first, is CRC-valid; CRC-valid means that the trailing little-endian u16
is the CRC of what precedes it; and `crc16` over a whole CRC-valid frame is 0, which the spec marks as general knowledge
(93_implementation_defined.md I16). -/
def Obligations.ValidFramesHaveZeroResidue : Prop :=
  (∀ P : Bytes, crcValid (P ++ [(crc16 P).extractLsb' 0 8, (crc16 P).extractLsb' 8 8]) = true) ∧
  (∀ F : Bytes, crcValid F = true ↔
    2 ≤ F.length ∧ le16 F (F.length - 2) = crc16 (F.take (F.length - 2))) ∧
  (∀ F : Bytes, crcValid F = true → crc16 F = 0)

/-- R105: feeding the bytes of an encoded frame in TX, all but the last two, to CRC_UPDATE after a CRC_INIT leaves the
frame's own CRC field in CRC. The spec marks this rule as its own inference. -/
def Obligations.GeneratorAgreesWithFrames : Prop :=
  ∀ s : State, s.txLegal → s.tx ≠ [] →
    ∃ t, execAll (.crcInit :: (s.tx.take (s.tx.length - 2)).map .crcUpdate) s = .next t ∧
      t.crc = le16 s.tx (s.tx.length - 2) ∧ t.tx = s.tx

/-! ### Encoding (41_encode.md) -/

/-- R130: ENCODE_REQ opens the context and puts the frame in TX; with a request pending it reports BUSY and changes
STATUS only. -/
def Obligations.EncodeReqOpensContextOrReportsBusy : Prop :=
  (∀ c : HostCommand, c.cmd = 0x03 → decodeCommand c = .ok (.encodeReq c.addr c.req)) ∧
  (∀ (s : State) (addr : Byte) (req : RequestPDU), s.pend = none →
    exec (.encodeReq addr req) s = .next
      { s with
        tx := frame addr (encReq req)
        pend := some { addr := addr, fc := fcCode (reqFc req), expLen := BitVec.ofNat 8 (expectedResponseLen req) }
        status := 0x0010 }) ∧
  (∀ (addr : Byte) (req : RequestPDU), byteAt (frame addr (encReq req)) 1 = fcCode (reqFc req)) ∧
  (∀ (s : State) (p : Pending) (addr : Byte) (req : RequestPDU), s.pend = some p →
    exec (.encodeReq addr req) s = .next { s with status := 0x001A })

/-- R131: ENCODE_RSP puts the frame in TX, with a request pending too; the frame's length is `rsplen` of its function
code, which is the expected response length of every request with that code; the spec marks these two clauses as its own
inference ("[derived: from rules R124 to R129 and 43_control.md rule R171]"). -/
def Obligations.EncodeRspWritesContractFrame : Prop :=
  (∀ c : HostCommand, c.cmd = 0x04 → decodeCommand c = .ok (.encodeRsp c.addr c.rsp)) ∧
  (∀ (s : State) (addr : Byte) (rsp : ResponsePDU),
    exec (.encodeRsp addr rsp) s = .next
      { s with tx := frame addr (encRsp rsp), status := plainStatus .ok s.pend }) ∧
  (∀ (addr : Byte) (rsp : ResponsePDU), (frame addr (encRsp rsp)).length = rspLen (rspFc rsp)) ∧
  (∀ (addr : Byte) (rsp : ResponsePDU) (req : RequestPDU), reqFc req = rspFc rsp →
    expectedResponseLen req = (frame addr (encRsp rsp)).length)

/-- R64, R66 to R73: the frame of each request variant, field by field at the offsets of its table, with the CRC of
all before it in the last two bytes; an `i32` value in its range is read back by `sext_32`. -/
def Obligations.RequestFramesFollowTheirTables : Prop :=
  (∀ addr s r d, let F := frame addr (encReq (.manage s r d));
    F.length = 12 ∧ byteAt F 0 = addr ∧ byteAt F 1 = 0x41 ∧
      be16 F 2 = (match s with | .enable => 0xFF00 | .disable => 0x0000) ∧
      be32 F 4 = r ∧ be16 F 8 = d ∧ le16 F 10 = crc16 (F.take 10)) ∧
  (∀ (addr : Byte) (f : Int), -2 ^ 31 ≤ f → f < 2 ^ 31 →
    let F := frame addr (encReq (.command (.forceControlStream (i32Pattern f))));
    F.length = 9 ∧ byteAt F 0 = addr ∧ byteAt F 1 = 0x64 ∧ byteAt F 2 = 0x1C ∧ sext32 (be32 F 3) = f ∧
      le16 F 7 = crc16 (F.take 7)) ∧
  (∀ (addr : Byte) (p : Int), -2 ^ 31 ≤ p → p < 2 ^ 31 →
    let F := frame addr (encReq (.command (.positionControlStream (i32Pattern p))));
    F.length = 9 ∧ byteAt F 0 = addr ∧ byteAt F 1 = 0x64 ∧ byteAt F 2 = 0x1E ∧ sext32 (be32 F 3) = p ∧
      le16 F 7 = crc16 (F.take 7)) ∧
  (∀ addr, let F := frame addr (encReq (.command .kinematicDataStream));
    F.length = 9 ∧ byteAt F 0 = addr ∧ byteAt F 1 = 0x64 ∧ byteAt F 2 = 0x20 ∧ be32 F 3 = 0 ∧
      le16 F 7 = crc16 (F.take 7)) ∧
  (∀ addr h, let F := frame addr (encReq (.command (.hapticDataStream h)));
    F.length = 9 ∧ byteAt F 0 = addr ∧ byteAt F 1 = 0x64 ∧ byteAt F 2 = 0x22 ∧ be32 F 3 = h ∧
      le16 F 7 = crc16 (F.take 7)) ∧
  (∀ addr, let F := frame addr (encReq (.command .sleepDataStream));
    F.length = 9 ∧ byteAt F 0 = addr ∧ byteAt F 1 = 0x64 ∧ byteAt F 2 = 0x00 ∧ be32 F 3 = 0 ∧
      le16 F 7 = crc16 (F.take 7)) ∧
  (∀ addr a w, let F := frame addr (encReq (.read a w));
    F.length = 7 ∧ byteAt F 0 = addr ∧ byteAt F 1 = 0x68 ∧ be16 F 2 = a ∧ byteAt F 4 = w ∧
      le16 F 5 = crc16 (F.take 5)) ∧
  (∀ addr a w v, let F := frame addr (encReq (.write a w v));
    F.length = 11 ∧ byteAt F 0 = addr ∧ byteAt F 1 = 0x69 ∧ be16 F 2 = a ∧ byteAt F 4 = w ∧ be32 F 5 = v ∧
      le16 F 9 = crc16 (F.take 9))

/-- R80 to R84: the frame of each response variant, field by field at the offsets of its table. -/
def Obligations.ResponseFramesFollowTheirTables : Prop :=
  (∀ addr s r d, let F := frame addr (encRsp (.manage s r d));
    F.length = 12 ∧ byteAt F 0 = addr ∧ byteAt F 1 = 0x41 ∧ be16 F 2 = s ∧ be32 F 4 = r ∧ be16 F 8 = d ∧
      le16 F 10 = crc16 (F.take 10)) ∧
  (∀ addr cr, let F := frame addr (encRsp (.command cr));
    F.length = 19 ∧ byteAt F 0 = addr ∧ byteAt F 1 = 0x64 ∧ bodyFields F 2 = cr ∧ le16 F 17 = crc16 (F.take 17)) ∧
  (∀ addr x m cr, let F := frame addr (encRsp (.read x m cr));
    F.length = 24 ∧ byteAt F 0 = addr ∧ byteAt F 1 = 0x68 ∧ be32 F 2 = x ∧ byteAt F 6 = modeCode m ∧
      bodyFields F 7 = cr ∧ le16 F 22 = crc16 (F.take 22)) ∧
  (∀ addr m cr, let F := frame addr (encRsp (.write m cr));
    F.length = 20 ∧ byteAt F 0 = addr ∧ byteAt F 1 = 0x69 ∧ byteAt F 2 = modeCode m ∧ bodyFields F 3 = cr ∧
      le16 F 18 = crc16 (F.take 18))

/-- R85: the frame lengths by direction and function code, for every variant's frame. The spec marks the request column
as its own inference ("[derived: from rules R64 to R72]"). -/
def Obligations.FrameLengthsFollowTheTable : Prop :=
  (∀ addr req, (frame addr (encReq req)).length = reqLen (reqFc req)) ∧
  (∀ addr rsp, (frame addr (encRsp rsp)).length = rspLen (rspFc rsp)) ∧
  [FunctionCode.manage, .command, .read, .write].map reqLen = [12, 9, 7, 11] ∧
  [FunctionCode.manage, .command, .read, .write].map rspLen = [12, 19, 24, 20] ∧
  (∀ fc, minReq ≤ reqLen fc ∧ minRsp ≤ rspLen fc) ∧ (∃ fc, reqLen fc = minReq) ∧ (∃ fc, rspLen fc = minRsp)

/-- R132: decoding undoes encoding, for every address and every request and response, a pending context that matches
included; and the converse fails for an unknown Mode byte and for ignored reserved bytes. The spec marks this rule as
its own inference from R116 to R131 and R141 to R167. -/
def Obligations.DecodeUndoesEncode : Prop :=
  (∀ (s : State) (addr : Byte) (req : RequestPDU),
    RequestDelivered s (.decodeReq (frame addr (encReq req))) addr req) ∧
  (∀ (s : State) (addr : Byte) (rsp : ResponsePDU), s.pend = none →
    exec (.decodeRsp (frame addr (encRsp rsp))) s = .next { s with dec := some (.rsp addr rsp), status := 0x0000 }) ∧
  (∀ (s : State) (p : Pending) (addr : Byte) (rsp : ResponsePDU), s.pend = some p → p.addr = addr →
    (s.cfg.strictVariant = true → p.fc = fcCode (rspFc rsp)) →
    exec (.decodeRsp (frame addr (encRsp rsp))) s = .next
      { s with
        pend := none
        dec := some (.rsp addr rsp)
        status := if p.fc = fcCode (rspFc rsp) then 0x00E0 else 0x0060 }) ∧
  (∃ (B : Bytes) (addr : Byte) (rsp : ResponsePDU),
    decRsp B = .ok (.rsp addr rsp, true) ∧ frame addr (encRsp rsp) ≠ B) ∧
  (∃ (B : Bytes) (addr : Byte) (req : RequestPDU),
    decReq .ignore B = .ok (.req addr req) ∧ frame addr (encReq req) ≠ B)

/-! ### Decoding requests (42_decode.md) -/

/-- R145 to R147, R189: one DECODE_REQ reports the first cause of R189's order, and delivers nothing. -/
def Obligations.DecodeReqReportsFirstCause : Prop :=
  ∀ (s : State) (B : Bytes),
    (B.length < 7 → RequestFails s (.decodeReq B) .frameTooShort) ∧
    (7 ≤ B.length → byteAt B 1 ∉ knownCodes → RequestFails s (.decodeReq B) .unknownFunctionCode) ∧
    (∀ fc, 7 ≤ B.length → byteAt B 1 = fcCode fc → B.length ≠ reqLen fc →
      RequestFails s (.decodeReq B) .lengthMismatch) ∧
    (B.length = 9 → byteAt B 1 = 0x64 → byteAt B 2 ∉ ([0x1C, 0x1E, 0x20, 0x22, 0x00] : List Byte) →
      RequestFails s (.decodeReq B) .unknownSubCode) ∧
    (B.length = 12 → byteAt B 1 = 0x41 → be16 B 2 ≠ 0xFF00 → be16 B 2 ≠ 0x0000 →
      RequestFails s (.decodeReq B) .invalidSubFunction) ∧
    (B.length = 9 → byteAt B 1 = 0x64 → byteAt B 2 ∈ ([0x20, 0x00] : List Byte) →
      s.cfg.reservedPolicy = .reject → (B.drop 3).take 4 ≠ [0, 0, 0, 0] →
      RequestFails s (.decodeReq B) .reservedNonzero) ∧
    (requestFieldsPass s.cfg.reservedPolicy B → crcValid B = false →
      RequestFails s (.decodeReq B) .checksumMismatch)

/-- R149 to R156: a CRC-valid request frame of each variant is delivered with the fields its rule reads; and CMD 0x05
is DECODE_REQ (R157). -/
def Obligations.DecodeReqDeliversEveryVariant : Prop :=
  (∀ c : HostCommand, c.cmd = 0x05 → c.bytes.length ≤ 255 → decodeCommand c = .ok (.decodeReq c.bytes)) ∧
  ∀ (s : State) (B : Bytes), crcValid B = true →
    (B.length = 12 → byteAt B 1 = 0x41 → be16 B 2 = 0xFF00 →
      RequestDelivered s (.decodeReq B) (byteAt B 0) (.manage .enable (be32 B 4) (be16 B 8))) ∧
    (B.length = 12 → byteAt B 1 = 0x41 → be16 B 2 = 0x0000 →
      RequestDelivered s (.decodeReq B) (byteAt B 0) (.manage .disable (be32 B 4) (be16 B 8))) ∧
    (B.length = 9 → byteAt B 1 = 0x64 → byteAt B 2 = 0x1C →
      RequestDelivered s (.decodeReq B) (byteAt B 0) (.command (.forceControlStream (be32 B 3)))) ∧
    (B.length = 9 → byteAt B 1 = 0x64 → byteAt B 2 = 0x1E →
      RequestDelivered s (.decodeReq B) (byteAt B 0) (.command (.positionControlStream (be32 B 3)))) ∧
    (B.length = 9 → byteAt B 1 = 0x64 → byteAt B 2 = 0x20 →
      (s.cfg.reservedPolicy = .reject → (B.drop 3).take 4 = [0, 0, 0, 0]) →
      RequestDelivered s (.decodeReq B) (byteAt B 0) (.command .kinematicDataStream)) ∧
    (B.length = 9 → byteAt B 1 = 0x64 → byteAt B 2 = 0x22 →
      RequestDelivered s (.decodeReq B) (byteAt B 0) (.command (.hapticDataStream (be32 B 3)))) ∧
    (B.length = 9 → byteAt B 1 = 0x64 → byteAt B 2 = 0x00 →
      (s.cfg.reservedPolicy = .reject → (B.drop 3).take 4 = [0, 0, 0, 0]) →
      RequestDelivered s (.decodeReq B) (byteAt B 0) (.command .sleepDataStream)) ∧
    (B.length = 7 → byteAt B 1 = 0x68 →
      RequestDelivered s (.decodeReq B) (byteAt B 0) (.read (be16 B 2) (byteAt B 4))) ∧
    (B.length = 11 → byteAt B 1 = 0x69 →
      RequestDelivered s (.decodeReq B) (byteAt B 0) (.write (be16 B 2) (byteAt B 4) (be32 B 5)))

/-- R150, R151, R153, R155, R156, the request rows (the model's instructions, log entry 5) without a field check: with
the CRC of the bytes before it in the CRC field the row's PDU is delivered, and with any other it is
CHECKSUM_MISMATCH. -/
def Obligations.PlainRequestRowsDecode : Prop :=
  (∀ (s : State) (addr : Byte) (f : I32) (crc : U16), let c := crc16 ([addr, 0x64, 0x1C] ++ putBe32 f);
    (crc = c → RequestDelivered s (.reqCmdForce addr f crc) addr (.command (.forceControlStream f))) ∧
    (crc ≠ c → RequestFails s (.reqCmdForce addr f crc) .checksumMismatch)) ∧
  (∀ (s : State) (addr : Byte) (p : I32) (crc : U16), let c := crc16 ([addr, 0x64, 0x1E] ++ putBe32 p);
    (crc = c → RequestDelivered s (.reqCmdPosition addr p crc) addr (.command (.positionControlStream p))) ∧
    (crc ≠ c → RequestFails s (.reqCmdPosition addr p crc) .checksumMismatch)) ∧
  (∀ (s : State) (addr : Byte) (h : U32) (crc : U16), let c := crc16 ([addr, 0x64, 0x22] ++ putBe32 h);
    (crc = c → RequestDelivered s (.reqCmdHaptic addr h crc) addr (.command (.hapticDataStream h))) ∧
    (crc ≠ c → RequestFails s (.reqCmdHaptic addr h crc) .checksumMismatch)) ∧
  (∀ (s : State) (addr : Byte) (a : U16) (w : Byte) (crc : U16), let c := crc16 ([addr, 0x68] ++ putBe16 a ++ [w]);
    (crc = c → RequestDelivered s (.reqRead addr a w crc) addr (.read a w)) ∧
    (crc ≠ c → RequestFails s (.reqRead addr a w crc) .checksumMismatch)) ∧
  (∀ (s : State) (addr : Byte) (a : U16) (w : Byte) (v : U32) (crc : U16),
    let c := crc16 ([addr, 0x69] ++ putBe16 a ++ [w] ++ putBe32 v);
    (crc = c → RequestDelivered s (.reqWrite addr a w v crc) addr (.write a w v)) ∧
    (crc ≠ c → RequestFails s (.reqWrite addr a w v crc) .checksumMismatch))

/-- R146, R149, R189: the Manage row (log entry 5): its sub-function is Enable or Disable, or the frame fails with
INVALID_SUB_FUNCTION whatever its CRC. -/
def Obligations.ManageRequestRowDecodes : Prop :=
  ∀ (s : State) (addr : Byte) (sf : U16) (r : U32) (d crc : U16),
    let c := crc16 ([addr, 0x41] ++ putBe16 sf ++ putBe32 r ++ putBe16 d);
    (sf = 0xFF00 → crc = c → RequestDelivered s (.reqManage addr sf r d crc) addr (.manage .enable r d)) ∧
    (sf = 0x0000 → crc = c → RequestDelivered s (.reqManage addr sf r d crc) addr (.manage .disable r d)) ∧
    (sf ≠ 0xFF00 → sf ≠ 0x0000 → RequestFails s (.reqManage addr sf r d crc) .invalidSubFunction) ∧
    (sf = 0xFF00 ∨ sf = 0x0000 → crc ≠ c → RequestFails s (.reqManage addr sf r d crc) .checksumMismatch)

/-- R147, R152, R154: the Kinematic and Sleep rows (log entry 5): under Ignore the reserved bytes are not examined,
under Reject a non-zero one fails with RESERVED_NONZERO whatever the CRC. -/
def Obligations.ReservedRowsFollowPolicy : Prop :=
  ∀ (s : State) (addr : Byte) (z : U32) (crc : U16),
    (let c := crc16 ([addr, 0x64, 0x20] ++ putBe32 z);
      (s.cfg.reservedPolicy = .ignore ∨ z = 0 → crc = c →
        RequestDelivered s (.reqCmdKinematic addr z crc) addr (.command .kinematicDataStream)) ∧
      (s.cfg.reservedPolicy = .reject → z ≠ 0 →
        RequestFails s (.reqCmdKinematic addr z crc) .reservedNonzero) ∧
      (s.cfg.reservedPolicy = .ignore ∨ z = 0 → crc ≠ c →
        RequestFails s (.reqCmdKinematic addr z crc) .checksumMismatch)) ∧
    (let c := crc16 ([addr, 0x64, 0x00] ++ putBe32 z);
      (s.cfg.reservedPolicy = .ignore ∨ z = 0 → crc = c →
        RequestDelivered s (.reqCmdSleep addr z crc) addr (.command .sleepDataStream)) ∧
      (s.cfg.reservedPolicy = .reject → z ≠ 0 →
        RequestFails s (.reqCmdSleep addr z crc) .reservedNonzero) ∧
      (s.cfg.reservedPolicy = .ignore ∨ z = 0 → crc ≠ c →
        RequestFails s (.reqCmdSleep addr z crc) .checksumMismatch))

/-! ### Decoding responses -/

/-- R165, R190: one DECODE_RSP reports the first cause of R190's order, delivers nothing, and closes the context. -/
def Obligations.DecodeRspReportsFirstCause : Prop :=
  ∀ (s : State) (B : Bytes),
    (B.length < 12 → ResponseFails s (.decodeRsp B) .frameTooShort) ∧
    (12 ≤ B.length → byteAt B 1 ∉ knownCodes → ResponseFails s (.decodeRsp B) .unknownFunctionCode) ∧
    (∀ fc, 12 ≤ B.length → byteAt B 1 = fcCode fc → B.length ≠ rspLen fc →
      ResponseFails s (.decodeRsp B) .lengthMismatch) ∧
    (responseFieldsPass B → crcValid B = false → ResponseFails s (.decodeRsp B) .checksumMismatch) ∧
    (∀ p, responseFieldsPass B → crcValid B = true → s.pend = some p → byteAt B 0 ≠ p.addr →
      exec (.decodeRsp B) s = .next { s with pend := none, dec := none, status := 0x0028 }) ∧
    (∀ p, responseFieldsPass B → crcValid B = true → s.pend = some p → byteAt B 0 = p.addr → byteAt B 1 ≠ p.fc →
      s.cfg.strictVariant = true →
      exec (.decodeRsp B) s = .next { s with pend := none, dec := none, status := 0x0069 })

/-- R158 to R163: a CRC-valid response frame of each variant is delivered with the fields its rule reads, an unknown
Mode byte as SleepMode with MODE_DEFAULTED; and CMD 0x06 is DECODE_RSP (R167). -/
def Obligations.DecodeRspDeliversEveryVariant : Prop :=
  (∀ c : HostCommand, c.cmd = 0x06 → c.bytes.length ≤ 255 → decodeCommand c = .ok (.decodeRsp c.bytes)) ∧
  ∀ B : Bytes, crcValid B = true →
    (B.length = 12 → byteAt B 1 = 0x41 →
      ResponseDelivered (.decodeRsp B) (byteAt B 0) 0x41 (.manage (be16 B 2) (be32 B 4) (be16 B 8)) false) ∧
    (B.length = 19 → byteAt B 1 = 0x64 →
      ResponseDelivered (.decodeRsp B) (byteAt B 0) 0x64 (.command (bodyFields B 2)) false) ∧
    (∀ m, B.length = 24 → byteAt B 1 = 0x68 → byteAt B 6 = modeCode m →
      ResponseDelivered (.decodeRsp B) (byteAt B 0) 0x68 (.read (be32 B 2) m (bodyFields B 7)) false) ∧
    (B.length = 24 → byteAt B 1 = 0x68 → byteAt B 6 ∉ knownModes →
      ResponseDelivered (.decodeRsp B) (byteAt B 0) 0x68 (.read (be32 B 2) .sleepMode (bodyFields B 7)) true) ∧
    (∀ m, B.length = 20 → byteAt B 1 = 0x69 → byteAt B 2 = modeCode m →
      ResponseDelivered (.decodeRsp B) (byteAt B 0) 0x69 (.write m (bodyFields B 3)) false) ∧
    (B.length = 20 → byteAt B 1 = 0x69 → byteAt B 2 ∉ knownModes →
      ResponseDelivered (.decodeRsp B) (byteAt B 0) 0x69 (.write .sleepMode (bodyFields B 3)) true)

/-- R160 to R163, R159: the response rows (log entry 5): with the CRC of the bytes before it in the CRC field the
row's PDU is delivered, and with any other it is CHECKSUM_MISMATCH. -/
def Obligations.ResponseRowsDecode : Prop :=
  (∀ (addr : Byte) (sc : U16) (r : U32) (d crc : U16),
    let c := crc16 ([addr, 0x41] ++ putBe16 sc ++ putBe32 r ++ putBe16 d);
    (crc = c → ResponseDelivered (.rspManage addr sc r d crc) addr 0x41 (.manage sc r d) false) ∧
    (crc ≠ c → ∀ s, ResponseFails s (.rspManage addr sc r d crc) .checksumMismatch)) ∧
  (∀ (addr : Byte) (body : CommandResponse) (crc : U16), let c := crc16 ([addr, 0x64] ++ encBody body);
    (crc = c → ResponseDelivered (.rspCommand addr body crc) addr 0x64 (.command body) false) ∧
    (crc ≠ c → ∀ s, ResponseFails s (.rspCommand addr body crc) .checksumMismatch)) ∧
  (∀ (addr : Byte) (x : U32) (m : Byte) (body : CommandResponse) (crc : U16),
    let c := crc16 ([addr, 0x68] ++ putBe32 x ++ [m] ++ encBody body);
    (∀ k, m = modeCode k → crc = c →
      ResponseDelivered (.rspRead addr x m body crc) addr 0x68 (.read x k body) false) ∧
    (m ∉ knownModes → crc = c →
      ResponseDelivered (.rspRead addr x m body crc) addr 0x68 (.read x .sleepMode body) true) ∧
    (crc ≠ c → ∀ s, ResponseFails s (.rspRead addr x m body crc) .checksumMismatch)) ∧
  (∀ (addr m : Byte) (body : CommandResponse) (crc : U16), let c := crc16 ([addr, 0x69, m] ++ encBody body);
    (∀ k, m = modeCode k → crc = c →
      ResponseDelivered (.rspWrite addr m body crc) addr 0x69 (.write k body) false) ∧
    (m ∉ knownModes → crc = c →
      ResponseDelivered (.rspWrite addr m body crc) addr 0x69 (.write .sleepMode body) true) ∧
    (crc ≠ c → ∀ s, ResponseFails s (.rspWrite addr m body crc) .checksumMismatch))

/-- R166: a response of another family than the pending request's: delivered with VARIANT_MATCH 0 under
STRICT_VARIANT false, UNEXPECTED_VARIANT and nothing delivered under true; and at the pending request's expected
length it never gets that far, which the spec marks as its own inference ("[derived: from rules R144 and R141]"). -/
def Obligations.OtherVariantFollowsStrictVariant : Prop :=
  ∀ (s : State) (p : Pending) (B : Bytes), s.pend = some p → byteAt B 1 ≠ p.fc →
    (∀ fc, byteAt B 1 = fcCode fc → B.length = rspLen fc → crcValid B = true → byteAt B 0 = p.addr →
      (s.cfg.strictVariant = false → ∃ t, exec (.decodeRsp B) s = .next t ∧
        (∃ pdu, t.dec = some (.rsp (byteAt B 0) pdu) ∧ rspFc pdu = fc) ∧ t.pend = none ∧
        statusResult t.status = 0 ∧ statusCtx t.status = true ∧ statusAddrMatch t.status = true ∧
        statusVariantMatch t.status = false) ∧
      (s.cfg.strictVariant = true →
        exec (.decodeRsp B) s = .next { s with pend := none, dec := none, status := 0x0069 })) ∧
    (∀ fc, byteAt B 1 = fcCode fc → p.legal → B.length = p.expLen.toNat →
      ResponseFails s (.decodeRsp B) .lengthMismatch)

/-- R218, R187: at the pending request's expected length, a frame with another function code byte fails with
LENGTH_MISMATCH, or with UNKNOWN_FUNCTION_CODE where the byte is no function code. The spec marks both rules as its own
inferences. -/
def Obligations.OtherVariantAtExpectedLengthFails : Prop :=
  ∀ (s : State) (p : Pending) (B : Bytes), s.pend = some p → p.legal → B.length = p.expLen.toNat →
    byteAt B 1 ≠ p.fc →
    (byteAt B 1 ∈ knownCodes → ResponseFails s (.decodeRsp B) .lengthMismatch) ∧
    (byteAt B 1 ∉ knownCodes → ResponseFails s (.decodeRsp B) .unknownFunctionCode)

/-- R168: DECODE_RSP ends the pending request whatever its result, and the next ENCODE_REQ is accepted. -/
def Obligations.DecodeRspEndsPendingRequest : Prop :=
  ∀ (s : State) (B : Bytes), ∃ t, exec (.decodeRsp B) s = .next t ∧ t.pend = none ∧
    ∀ addr req, ∃ u, exec (.encodeReq addr req) t = .next u ∧ statusResult u.status = 0 ∧ u.pend ≠ none

/-- R78, R79, R159, R188: the seven Mode codes, in R78's order; a known Mode byte decodes to its Mode, any other to
SleepMode with `defaulted`; and a Read or Write response that carries an unknown one succeeds with MODE_DEFAULTED,
whatever its other fields, with no request pending or with one that the response matches. -/
def Obligations.UnknownModeIsNoFailure : Prop :=
  [Mode.sleepMode, .forceMode, .positionMode, .hapticMode, .kineticMode, .pulseWidthMode, .autoZeroingMode].map
      modeCode = [1, 2, 3, 4, 5, 11, 55] ∧
  (∀ m : Mode, modeOf (modeCode m) = (m, false)) ∧
  (∀ b : Byte, b ∉ knownModes ↔ (modeOf b).2 = true) ∧
  (∀ b : Byte, b ∉ knownModes → (modeOf b).1 = .sleepMode) ∧
  (∀ (s : State) (addr : Byte) (x : U32) (m : Byte) (body : CommandResponse), m ∉ knownModes →
    (∀ p, s.pend = some p → p.addr = addr ∧ (s.cfg.strictVariant = true → p.fc = 0x68)) →
    ∃ t, exec (.decodeRsp (frame addr ([0x68] ++ putBe32 x ++ [m] ++ encBody body))) s = .next t ∧
      t.dec = some (.rsp addr (.read x .sleepMode body)) ∧ statusResult t.status = 0 ∧
      statusModeDefaulted t.status = true) ∧
  (∀ (s : State) (addr m : Byte) (body : CommandResponse), m ∉ knownModes →
    (∀ p, s.pend = some p → p.addr = addr ∧ (s.cfg.strictVariant = true → p.fc = 0x69)) →
    ∃ t, exec (.decodeRsp (frame addr ([0x69, m] ++ encBody body))) s = .next t ∧
      t.dec = some (.rsp addr (.write .sleepMode body)) ∧ statusResult t.status = 0 ∧
      statusModeDefaulted t.status = true)

/-- R169: a frame that its decoder accepts, with exactly one bit flipped, is rejected by the same decoder. A flip in
the function code gives UNKNOWN_FUNCTION_CODE or LENGTH_MISMATCH; a flip in a CRC byte, or one that passes steps 1 to
4, gives CHECKSUM_MISMATCH; under Reject a flip in a reserved byte gives RESERVED_NONZERO; elsewhere a request may also
give UNKNOWN_SUB_CODE or INVALID_SUB_FUNCTION. The spec marks this rule as its own inference. -/
def Obligations.SingleBitFlipIsRejected : Prop :=
  (∀ (policy : ReservedPolicy) (B : Bytes) (adu : DecodedADU) (k : Nat), decReq policy B = .ok adu →
    k < 8 * B.length → ∃ c, decReq policy (flipBit B k) = .error c ∧
      (k / 8 = 1 → c = .unknownFunctionCode ∨ c = .lengthMismatch) ∧
      (B.length - 2 ≤ k / 8 → c = .checksumMismatch) ∧
      (requestFieldsPass policy (flipBit B k) → c = .checksumMismatch) ∧
      (policy = .reject → byteAt B 1 = 0x64 → byteAt B 2 ∈ ([0x20, 0x00] : List Byte) → 3 ≤ k / 8 → k / 8 < 7 →
        c = .reservedNonzero) ∧
      c ∈ [ResultCode.unknownFunctionCode, .lengthMismatch, .checksumMismatch, .unknownSubCode, .invalidSubFunction,
        .reservedNonzero]) ∧
  (∀ (B : Bytes) (r : DecodedADU × Bool) (k : Nat), decRsp B = .ok r → k < 8 * B.length →
    ∃ c, decRsp (flipBit B k) = .error c ∧
      (k / 8 = 1 → c = .unknownFunctionCode ∨ c = .lengthMismatch) ∧
      (k / 8 ≠ 1 → c = .checksumMismatch) ∧
      (responseFieldsPass (flipBit B k) → c = .checksumMismatch))

/-! ### Length lookup, control, illegal words (43_control.md) -/

/-- R170, R171: the payload sizes, and the expected response length, which depends on the function code alone. That the
sizes agree with the serialised responses the spec marks as its own inference ("[derived: from 30_encoding.md rule
R63]"). -/
def Obligations.ExpectedResponseLengths : Prop :=
  [FunctionCode.manage, .command, .read, .write].map payloadSize = [9, 16, 21, 17] ∧
  (∀ rsp, (encRsp rsp).length = payloadSize (rspFc rsp)) ∧
  (∀ s r d, expectedResponseLen (.manage s r d) = 12) ∧ (∀ p, expectedResponseLen (.command p) = 19) ∧
  (∀ a w, expectedResponseLen (.read a w) = 24) ∧ (∀ a w v, expectedResponseLen (.write a w v) = 20) ∧
  (∀ req, expectedResponseLen req = 1 + payloadSize (reqFc req) + 2) ∧
  (∀ req, expectedResponseLen req = rspLen (reqFc req))

/-- R172: RESP_LEN, with a request pending too; ENCODE_REQ of the same request stores the same value. -/
def Obligations.RespLenLooksUpLength : Prop :=
  (∀ c : HostCommand, c.cmd = 0x07 → decodeCommand c = .ok (.respLen c.req)) ∧
  (∀ (s : State) (req : RequestPDU), exec (.respLen req) s = .next
    { s with
      len := (match reqFc req with | .manage => 12 | .command => 19 | .read => 24 | .write => 20)
      status := plainStatus .ok s.pend }) ∧
  (∀ (s : State) (addr : Byte) (req : RequestPDU), s.pend = none → ∃ t u p, exec (.encodeReq addr req) s = .next t ∧
    exec (.respLen req) s = .next u ∧ t.pend = some p ∧ p.expLen = u.len)

/-- R173: ABORT, also when nothing is pending; after it a fresh ENCODE_REQ is accepted. -/
def Obligations.AbortEndsPendingRequest : Prop :=
  (∀ c : HostCommand, c.cmd = 0x08 → decodeCommand c = .ok .abort) ∧
  (∀ s : State, exec .abort s = .next { s with pend := none, status := 0x0000 }) ∧
  (∀ (s : State) (addr : Byte) (req : RequestPDU), ∃ t, execAll [.abort, .encodeReq addr req] s = .next t ∧
    statusResult t.status = 0 ∧ t.tx = frame addr (encReq req))

/-- R174: an illegal command word changes only STATUS, whatever its operands, and the next command runs. -/
def Obligations.IllegalWordsChangeOnlyStatus : Prop :=
  ∀ (s : State) (c : HostCommand) (rest : List HostEvent), illegalWord c.cmd → s.port = .command c :: rest →
    step s = .next { s with status := if s.pend.isSome then 0x001B else 0x000B, port := rest }

/-- R62: the opcode map: each of the eight words with its operands, and no other word is an instruction. -/
def Obligations.OpcodeMapIsTotal : Prop :=
  ∀ c : HostCommand,
    (c.cmd = 0x01 → decodeCommand c = .ok .crcInit) ∧ (c.cmd = 0x02 → decodeCommand c = .ok (.crcUpdate c.b)) ∧
    (c.cmd = 0x03 → decodeCommand c = .ok (.encodeReq c.addr c.req)) ∧
    (c.cmd = 0x04 → decodeCommand c = .ok (.encodeRsp c.addr c.rsp)) ∧
    (c.cmd = 0x05 → c.bytes.length ≤ 255 → decodeCommand c = .ok (.decodeReq c.bytes)) ∧
    (c.cmd = 0x06 → c.bytes.length ≤ 255 → decodeCommand c = .ok (.decodeRsp c.bytes)) ∧
    (c.cmd = 0x07 → decodeCommand c = .ok (.respLen c.req)) ∧ (c.cmd = 0x08 → decodeCommand c = .ok .abort) ∧
    (c.cmd = 0x00 ∨ 0x09 ≤ c.cmd.toNat → decodeCommand c = .error .illegalCommand)

/-- The model's treatment of 93_implementation_defined.md I13 (log entry 4): a step is refused only for a decode operand
longer than 255 bytes, under the name `operandTooLong`, and every such command at the head of the port is refused. -/
def Obligations.OverlongOperandIsRefused : Prop :=
  ∀ (s : State) (r : Refusal), step s = .refused r ↔
    r = .operandTooLong ∧ ∃ c rest, s.port = .command c :: rest ∧ (c.cmd = 0x05 ∨ c.cmd = 0x06) ∧ 255 < c.bytes.length

/-! ### The step -/

/-- R20: when the host's next event is a command that decodes to an instruction, the step is that instruction's
meaning, with the event taken from the port. -/
def Obligations.StepRunsTheDecodedCommand : Prop :=
  ∀ (s : State) (c : HostCommand) (rest : List HostEvent) (i : Instr), s.port = .command c :: rest →
    decodeCommand c = .ok i → step s = exec i { s with port := rest }

/-- R20, R210: with nothing issued the block does nothing; a host reset puts the six registers at their reset values. -/
def Obligations.IdleAndResetSteps : Prop :=
  (∀ s : State, s.port = [] → step s = .next s) ∧
  (∀ (s : State) (rest : List HostEvent), s.port = .reset :: rest → step s = .next
    { crc := 0xFFFF, pend := none, tx := [], dec := none, len := 0, status := 0x0000, cfg := s.cfg, port := rest })

/-- R38: the reset value of every register. -/
def Obligations.ResetRegisterValues : Prop :=
  State.reset.crc = 0xFFFF ∧ State.reset.pend = none ∧ State.reset.tx = [] ∧ State.reset.dec = none ∧
    State.reset.len = 0 ∧ State.reset.status = 0x0000

/-- The opcode table's words (log entry 6): a word that decodes to an instruction, issued by `withFetchWord`, is run by
the very next step. -/
def Obligations.TableWordsAreFetchedAndRun : Prop :=
  ∀ (s : State) (nbits w : Nat) (i : Instr), decodeTableWord nbits w = some i →
    step (s.withFetchWord nbits w) = exec i s

/-- R141, R157, R164: DECODE_REQ and DECODE_RSP of a frame of the opcode table do what the frame's row does (log
entry 5). -/
def Obligations.DecodeCommandsRunTheirFramesRow : Prop :=
  (∀ (s : State) (B : Bytes) (i : Instr), decodeRequestFrame B = .ok i → exec (.decodeReq B) s = exec i s) ∧
  (∀ (s : State) (B : Bytes) (i : Instr), decodeResponseFrame B = .ok i → exec (.decodeRsp B) s = exec i s)

/-! ### The encodings -/

/-- 30_encoding.md: decoding an encoded well-formed instruction gives it back, with every operand. -/
def Obligations.DecodeOfEncodeIsIdentity : Prop :=
  ∀ i : Instr, i.wellFormed = true → decode (encode i) = .ok i

/-- 30_encoding.md: a frame that decodes to a row is what the row encodes to: no byte of a frame is dropped. -/
def Obligations.EncodeOfDecodedFrameIsIdentity : Prop :=
  (∀ (B : Bytes) (i : Instr), decodeRequestFrame B = .ok i → encode i = .requestFrame B) ∧
  (∀ (B : Bytes) (i : Instr), decodeResponseFrame B = .ok i → encode i = .responseFrame B)

/-- 95_test_vectors.md V7, V8: frames of the spec, written out byte by byte, decode to what they stand for. -/
def Obligations.SpecFramesDecode : Prop :=
  decode (.requestFrame [0x01, 0x41, 0xFF, 0x00, 0x00, 0x09, 0x89, 0x68, 0x00, 0x32, 0xA4, 0xC1]) =
    .ok (.reqManage 0x01 0xFF00 625000 50 0xC1A4) ∧
  decode (.requestFrame [0x02, 0x64, 0x1E, 0xFF, 0xFF, 0xEC, 0x78, 0xD4, 0x20]) =
    .ok (.reqCmdPosition 0x02 (i32Pattern (-5000)) 0x20D4) ∧
  decode (.requestFrame [0x01, 0x68, 0x00, 0x10, 0x02, 0x89, 0xA1]) = .ok (.reqRead 0x01 0x0010 2 0xA189) ∧
  decode (.responseFrame [0x01, 0x69, 0x37, 0x00, 0x00, 0x2E, 0xE0, 0x00, 0x01, 0x38, 0x80, 0x00, 0x19, 0x18, 0x5E,
    0x56, 0x00, 0x00, 0xD8, 0xF5]) =
    .ok (.rspWrite 0x01 55 ⟨12000, 80000, 25, 24, 24150, 0⟩ 0xF5D8) ∧
  decodeCommand (zeroOperands 0x08) = .ok .abort ∧ decodeCommand (zeroOperands 0x21) = .error .illegalCommand

/-! ### Whole-machine rules -/

/-- The invariant (R23, R24, R26 to R34) is kept by every step, from every state that has it. -/
def Obligations.EveryStepKeepsTheInvariant : Prop :=
  ∀ s s' : State, s.Inv → step s = .next s' → s'.Inv

/-- The invariant holds at reset. -/
def Obligations.InvariantHoldsAtReset : Prop := State.reset.Inv

/-- Every instruction completes in every state, since the block has no traps (R185; log entry 12), the frame rows
among them (log entry 5), and changes neither the parameters (log entry 1) nor what the host has issued (log entry 2),
which are the model's own fields. R28, R29, R34: what a command leaves in STATUS, legal or illegal, has PENDING the
mirror of PEND, a RESULT of 0 to 11 and reserved bits 0, as STATUS has after reset. -/
def Obligations.EveryInstructionCompletes : Prop :=
  (∀ (i : Instr) (s : State), ∃ t, exec i s = .next t ∧ statusPending t.status = t.pend.isSome ∧
    (statusResult t.status).toNat ≤ 11 ∧ statusReserved t.status = 0 ∧ t.cfg = s.cfg ∧ t.port = s.port) ∧
  (∀ (c : HostCommand) (s t : State), runCommand c s = .next t → statusPending t.status = t.pend.isSome ∧
    (statusResult t.status).toNat ≤ 11 ∧ statusReserved t.status = 0) ∧
  statusPending State.reset.status = State.reset.pend.isSome ∧ statusReserved State.reset.status = 0

/-- R35: no flag survives from an earlier command, legal or illegal: what STATUS held before makes no difference. -/
def Obligations.StatusCarriesNothingOver : Prop :=
  (∀ (i : Instr) (s : State) (v : U16), exec i { s with status := v } = exec i s) ∧
  (∀ (c : HostCommand) (s : State) (v : U16), runCommand c { s with status := v } = runCommand c s)

/-- R27, R186: where each field of STATUS stands, as the number the table gives, written and read; and the number of
each result code, in R186's order. -/
def Obligations.StatusLayoutFollowsTheTable : Prop :=
  (∀ (r : ResultCode) (pending ctx am vm md : Bool),
    (packStatus r pending ⟨ctx, am, vm, md⟩).toNat =
      r.code.toNat + 16 * pending.toNat + 32 * ctx.toNat + 64 * am.toNat + 128 * vm.toNat + 256 * md.toNat) ∧
  (∀ v : U16, v.toNat = (statusResult v).toNat + 16 * (statusPending v).toNat + 32 * (statusCtx v).toNat +
    64 * (statusAddrMatch v).toNat + 128 * (statusVariantMatch v).toNat + 256 * (statusModeDefaulted v).toNat +
    512 * (statusReserved v).toNat) ∧
  [ResultCode.ok, .frameTooShort, .checksumMismatch, .unknownFunctionCode, .lengthMismatch, .unknownSubCode,
    .invalidSubFunction, .reservedNonzero, .addressMismatch, .unexpectedVariant, .busy, .illegalCommand].map
      (fun r => r.code.toNat) = [0, 1, 2, 3, 4, 5, 6, 7, 8, 9, 10, 11]

/-- R30 to R33: an instruction that decodes no response, and an illegal command word, write CTX, ADDR_MATCH,
VARIANT_MATCH and MODE_DEFAULTED 0. DECODE_RSP writes CTX from the context; ADDR_MATCH exactly when a context was
present, the frame passed the structural checks and the CRC check, and the addresses agree; VARIANT_MATCH when the
function codes agree as well; MODE_DEFAULTED exactly when it succeeded with a Read or Write response whose Mode byte is
no known code. -/
def Obligations.ResponseFlagsFollowTheirRules : Prop :=
  (∀ (i : Instr) (s t : State), i.decodesResponse = false → exec i s = .next t →
    statusCtx t.status = false ∧ statusAddrMatch t.status = false ∧ statusVariantMatch t.status = false ∧
      statusModeDefaulted t.status = false) ∧
  (∀ (c : HostCommand) (s t : State), illegalWord c.cmd → runCommand c s = .next t →
    statusCtx t.status = false ∧ statusAddrMatch t.status = false ∧ statusVariantMatch t.status = false ∧
      statusModeDefaulted t.status = false) ∧
  (∀ (s t : State) (B : Bytes), exec (.decodeRsp B) s = .next t →
    statusCtx t.status = s.pend.isSome ∧
    (statusAddrMatch t.status = true ↔ responseFieldsPass B ∧ crcValid B = true ∧
      ∃ p, s.pend = some p ∧ byteAt B 0 = p.addr) ∧
    (statusVariantMatch t.status = true ↔ responseFieldsPass B ∧ crcValid B = true ∧
      ∃ p, s.pend = some p ∧ byteAt B 0 = p.addr ∧ byteAt B 1 = p.fc) ∧
    (statusModeDefaulted t.status = true ↔ statusResult t.status = 0 ∧
      ((byteAt B 1 = 0x68 ∧ byteAt B 6 ∉ knownModes) ∨ (byteAt B 1 = 0x69 ∧ byteAt B 2 ∉ knownModes))))

/-- R22 to R26: which instruction may write which register. -/
def Obligations.OnlyTheNamedCommandsWrite : Prop :=
  ∀ (i : Instr) (s t : State), exec i s = .next t →
    (t.crc ≠ s.crc → i = .crcInit ∨ ∃ b, i = .crcUpdate b) ∧
    (t.pend ≠ s.pend → (∃ a r, i = .encodeReq a r) ∨ i = .abort ∨ i.decodesResponse = true) ∧
    (t.tx ≠ s.tx → ((∃ a r, i = .encodeReq a r) ∨ ∃ a r, i = .encodeRsp a r) ∧
      statusResult t.status = ResultCode.ok.code) ∧
    (t.dec ≠ s.dec → i.decodesRequest = true ∨ i.decodesResponse = true) ∧
    (t.len ≠ s.len → ∃ r, i = .respLen r)

/-- R39: what an instruction leaves in STATUS, and every value it writes, depends on the operands, CRC, PEND and the
parameters alone (the spec marks this rule as its own inference): of two states that agree on these, an instruction
leaves each register equal in both or untouched in both. -/
def Obligations.ResultsDependOnCrcAndPendAlone : Prop :=
  ∀ (i : Instr) (s s' : State), s.crc = s'.crc → s.pend = s'.pend → s.cfg = s'.cfg →
    ∃ t t', exec i s = .next t ∧ exec i s' = .next t' ∧ t.status = t'.status ∧ t.crc = t'.crc ∧ t.pend = t'.pend ∧
      (t.tx = t'.tx ∨ (t.tx = s.tx ∧ t'.tx = s'.tx)) ∧
      (t.dec = t'.dec ∨ (t.dec = s.dec ∧ t'.dec = s'.dec)) ∧
      (t.len = t'.len ∨ (t.len = s.len ∧ t'.len = s'.len))

/-- R192: failures are precise: a failing instruction changes STATUS, and for the decodes DEC to none, and for the
response decodes PEND to none, and nothing else. -/
def Obligations.FailuresArePrecise : Prop :=
  ∀ (i : Instr) (s t : State), exec i s = .next t → statusResult t.status ≠ ResultCode.ok.code →
    t = { s with
      dec := if i.decodesRequest || i.decodesResponse then none else s.dec
      pend := if i.decodesResponse then none else s.pend
      status := t.status }

/-- R213, R23: a pending request ends only with DECODE_RSP, or a response row (log entry 5), or ABORT, and until then
ENCODE_REQ reports BUSY and keeps the context. -/
def Obligations.PendingRequestStaysUntilEnded : Prop :=
  ∀ (i : Instr) (s t : State) (p : Pending), s.pend = some p → exec i s = .next t →
    (t.pend = some p ∨ (t.pend = none ∧ (i = .abort ∨ i.decodesResponse = true))) ∧
    (∀ a r, i = .encodeReq a r → statusResult t.status = ResultCode.busy.code ∧ t.pend = some p ∧ t.tx = s.tx)

/-- R91: HS_ROUNDTRIP with the reply of a device of the same address and family, issued at the port of an idle block,
delivers the reply with CTX, ADDR_MATCH and VARIANT_MATCH, under either setting of the parameters. -/
def Obligations.RoundtripDeliversTheReply : Prop :=
  ∀ (s : State) (a : Byte) (req : RequestPDU) (rsp : ResponsePDU) (rest : List HostEvent),
    s.pend = none → rspFc rsp = reqFc req → s.port = hsRoundtrip a req (frame a (encRsp rsp)) ++ rest →
    core.run 2 s = .next
      { s with tx := frame a (encReq req), dec := some (.rsp a rsp), status := 0x00E0, port := rest }

/-! ### ErrorFlags (30_encoding.md) -/

/-- R75, R76: bit `p` of ErrorFlags is bit `p mod 8` of byte `p div 8` of its two bytes, a named flag included wherever
ERRFLAG_POS puts it; and a CommandResponse is read back from its bytes bit for bit, reserved bits included. -/
def Obligations.ErrorFlagsPassThroughBitForBit : Prop :=
  (∀ (e : ErrorFlags) (p : Nat), p < 16 → (byteAt (putLe16 e) (p / 8)).getLsbD (p % 8) = e.getLsbD p) ∧
  (∀ (pos : ErrFlagPos) (f : ErrorFlag) (e : ErrorFlags),
    flag pos e f = (byteAt (putLe16 e) ((pos.at f).val / 8)).getLsbD ((pos.at f).val % 8)) ∧
  (∀ (A C : Bytes) (cr : CommandResponse), parseBody (A ++ encBody cr ++ C) A.length = cr)

/-- R74 with its readings (log entry 8): under the constraints on ERRFLAG_POS the nine positions are distinct, so seven
bits are reserved. -/
def Obligations.SevenErrorBitsAreReserved : Prop :=
  ∀ pos : ErrFlagPos, pos.valid = true → pos.toList.Nodup ∧ pos.reserved.length = 7

/-! ### Instances -/

/-- R54: a step of one instance changes no other, gives that instance exactly its own step, and steps of two instances
give the same bank in either order. -/
def Obligations.InstancesShareNothing : Prop :=
  (∀ (k : Nat) (bank bank' : Bank), bankStep k bank = .next bank' →
    bank'.length = bank.length ∧ (∀ j, j ≠ k → bank'[j]? = bank[j]?) ∧
    (∀ s, bank[k]? = some s → ∃ s', step s = .next s' ∧ bank'[k]? = some s')) ∧
  (∀ (j k : Nat) (bank b₁ b₂ : Bank), j ≠ k → bankStep j bank = .next b₁ → bankStep k bank = .next b₂ →
    ∃ b, bankStep k b₁ = .next b ∧ bankStep j b₂ = .next b)
end

