-- ==== Sys2Proof/Laws/Operands.lean ====
section
/-! SUPPORT. The byte primitives read back what they write, and the lengths of everything serialised. -/

namespace Sys2Proof.Machine

@[simp] theorem putBe16_length (v : U16) : (putBe16 v).length = 2 := rfl
@[simp] theorem putBe32_length (v : U32) : (putBe32 v).length = 4 := rfl
@[simp] theorem putLe16_length (v : U16) : (putLe16 v).length = 2 := rfl
@[simp] theorem encBody_length (cr : CommandResponse) : (encBody cr).length = 15 := rfl

@[simp] theorem byteAt_cons_zero (b : Byte) (B : Bytes) : byteAt (b :: B) 0 = b := rfl
@[simp] theorem byteAt_cons_succ (b : Byte) (B : Bytes) (k : Nat) : byteAt (b :: B) (k + 1) = byteAt B k := rfl

/-- Two adjacent byte fields of a 16-bit value make it up. -/
theorem append_extract_16 (v : U16) : v.extractLsb' 8 8 ++ v.extractLsb' 0 8 = v := by
  ext i hi
  simp only [BitVec.getElem_append, BitVec.getElem_extractLsb']
  split
  all_goals
    rw [← BitVec.getLsbD_eq_getElem hi]
    congr 1
    omega

/-- Four adjacent byte fields of a 32-bit value make it up. -/
theorem append_extract_32 (v : U32) :
    (v.extractLsb' 24 8 ++ v.extractLsb' 16 8) ++ (v.extractLsb' 8 8 ++ v.extractLsb' 0 8) = v := by
  ext i hi
  simp only [BitVec.getElem_append, BitVec.getElem_extractLsb']
  repeat' split
  all_goals
    rw [← BitVec.getLsbD_eq_getElem hi]
    congr 1
    omega

/-- A 16-bit value written and read big-endian. -/
theorem be16_putBe16 (A : Bytes) (v : U16) (C : Bytes) : be16 (A ++ putBe16 v ++ C) A.length = v := by
  have h0 : byteAt (A ++ putBe16 v ++ C) A.length = v.extractLsb' 8 8 := by simp [byteAt, putBe16]
  have h1 : byteAt (A ++ putBe16 v ++ C) (A.length + 1) = v.extractLsb' 0 8 := by simp [byteAt, putBe16]
  rw [be16, h0, h1, append_extract_16]

/-- A 16-bit value written and read little-endian. -/
theorem le16_putLe16 (A : Bytes) (v : U16) (C : Bytes) : le16 (A ++ putLe16 v ++ C) A.length = v := by
  have h0 : byteAt (A ++ putLe16 v ++ C) A.length = v.extractLsb' 0 8 := by simp [byteAt, putLe16]
  have h1 : byteAt (A ++ putLe16 v ++ C) (A.length + 1) = v.extractLsb' 8 8 := by simp [byteAt, putLe16]
  rw [le16, h0, h1, append_extract_16]

/-- A 32-bit value written and read big-endian. -/
theorem be32_putBe32 (A : Bytes) (v : U32) (C : Bytes) : be32 (A ++ putBe32 v ++ C) A.length = v := by
  have h0 : byteAt (A ++ putBe32 v ++ C) A.length = v.extractLsb' 24 8 := by simp [byteAt, putBe32]
  have h1 : byteAt (A ++ putBe32 v ++ C) (A.length + 1) = v.extractLsb' 16 8 := by simp [byteAt, putBe32]
  have h2 : byteAt (A ++ putBe32 v ++ C) (A.length + 2) = v.extractLsb' 8 8 := by simp [byteAt, putBe32]
  have h3 : byteAt (A ++ putBe32 v ++ C) (A.length + 2 + 1) = v.extractLsb' 0 8 := by
    simp [byteAt, putBe32, Nat.add_assoc]
  rw [be32, be16, be16, h0, h1, h2, h3, append_extract_32]

/-- The value of an `i32` pattern is its two's-complement value (00_scope.md R10). -/
theorem sext32_eq_toInt (v : U32) : sext32 v = v.toInt := by
  unfold sext32 BitVec.toInt
  have := v.isLt
  split <;> split <;> omega

/-- An `i32` value that fits is read back from its pattern. -/
theorem sext32_i32Pattern {v : Int} (lo : -2 ^ 31 ≤ v) (hi : v < 2 ^ 31) : sext32 (i32Pattern v) = v := by
  rw [sext32_eq_toInt, i32Pattern, BitVec.toInt_ofInt]
  exact Int.bmod_eq_of_le (by norm_num at *; omega) (by norm_num at *; omega)

/-- The serialised request has its family's length, less address and CRC (30_encoding.md R85). -/
theorem encReq_length (req : RequestPDU) : (encReq req).length + 3 = reqLen (reqFc req) := by
  rcases req with _ | p | _ | _
  · rfl
  · cases p <;> rfl
  · rfl
  · rfl

/-- The serialised response has its family's length, less address and CRC (R85, 43_control.md R171). -/
theorem encRsp_length (rsp : ResponsePDU) : (encRsp rsp).length + 3 = rspLen (rspFc rsp) := by cases rsp <;> rfl

/-- A function code is read back from its byte (30_encoding.md R63). -/
@[simp] theorem fcOf_fcCode (fc : FunctionCode) : fcOf (fcCode fc) = some fc := by cases fc <;> decide

/-- Only the code of a function code reads as it (R63, R88). -/
theorem fcOf_eq_some {b : Byte} {fc : FunctionCode} : fcOf b = some fc ↔ b = fcCode fc := by
  constructor
  · intro h
    unfold fcOf at h
    repeat' split at h
    all_goals first | (cases h; assumption) | cases h
  · rintro rfl; exact fcOf_fcCode fc

/-- No two codes of one direction share a length (42_decode.md R169). -/
theorem reqLen_inj {fc fc' : FunctionCode} (h : reqLen fc = reqLen fc') : fc = fc' := by
  cases fc <;> cases fc' <;> first | rfl | exact absurd h (by decide)

/-- The same for responses. -/
theorem rspLen_inj {fc fc' : FunctionCode} (h : rspLen fc = rspLen fc') : fc = fc' := by
  cases fc <;> cases fc' <;> first | rfl | exact absurd h (by decide)

/-- The minimum of each direction is the smallest length (R85). -/
theorem minReq_le (fc : FunctionCode) : minReq ≤ reqLen fc := by cases fc <;> decide

/-- The same for responses. -/
theorem minRsp_le (fc : FunctionCode) : minRsp ≤ rspLen fc := by cases fc <;> decide

/-- A known Mode byte is read back, without defaulting (R78, R79). -/
@[simp] theorem modeOf_modeCode (m : Mode) : modeOf (modeCode m) = (m, false) := by cases m <;> decide

/-- A sub-function is read back from its code (R73). -/
@[simp] theorem subFunctionOf_code (s : SubFunction) : subFunctionOf (subFunctionCode s) = some s := by
  cases s <;> decide

end Sys2Proof.Machine
end

