-- ==== Sys2Proof/Laws/Crc.lean ====
section
/-! SUPPORT. `crc16` as a fold (40_crc.md R101 item 2), and the CRC field of a built frame (41_encode.md R129). -/

namespace Sys2Proof.Machine

/-- `crc16` continues over a longer sequence from the CRC of its beginning. -/
theorem crc16_append (A B : Bytes) : crc16 (A ++ B) = B.foldl crc16Step (crc16 A) := List.foldl_append

@[simp] theorem frame_length (addr : Byte) (P : Bytes) : (frame addr P).length = P.length + 3 := by
  simp [frame]

/-- The CRC of a built frame covers its address and PDU. -/
@[simp] theorem crcCovered_frame (addr : Byte) (P : Bytes) : crcCovered (frame addr P) = addr :: P := by
  simp [crcCovered, frame]

/-- The CRC field of a built frame holds `crc16` of what it covers. -/
@[simp] theorem crcField_frame (addr : Byte) (P : Bytes) : crcField (frame addr P) = crc16 (addr :: P) := by
  have h := le16_putLe16 (addr :: P) (crc16 (addr :: P)) []
  simpa [crcField, frame] using h

/-- A built frame is CRC-valid (R102). -/
theorem crcValid_frame (addr : Byte) (P : Bytes) : crcValid (frame addr P) = true := by
  simp [crcValid]

end Sys2Proof.Machine
end

