-- ==== Sys2Proof/Laws/State.lean ====
section
/-! SUPPORT. One lemma per field of State and per shared update, so that no later proof unfolds a record update. -/

namespace Sys2Proof.Machine

@[simp] theorem State.report_crc (s : State) (r f) : (s.report r f).crc = s.crc := rfl
@[simp] theorem State.report_pend (s : State) (r f) : (s.report r f).pend = s.pend := rfl
@[simp] theorem State.report_tx (s : State) (r f) : (s.report r f).tx = s.tx := rfl
@[simp] theorem State.report_dec (s : State) (r f) : (s.report r f).dec = s.dec := rfl
@[simp] theorem State.report_len (s : State) (r f) : (s.report r f).len = s.len := rfl
@[simp] theorem State.report_cfg (s : State) (r f) : (s.report r f).cfg = s.cfg := rfl
@[simp] theorem State.report_port (s : State) (r f) : (s.report r f).port = s.port := rfl
@[simp] theorem State.report_status (s : State) (r f) : (s.report r f).status = packStatus r s.pend.isSome f := rfl

@[simp] theorem State.finish_crc (s : State) (r) : (s.finish r).crc = s.crc := rfl
@[simp] theorem State.finish_pend (s : State) (r) : (s.finish r).pend = s.pend := rfl
@[simp] theorem State.finish_tx (s : State) (r) : (s.finish r).tx = s.tx := rfl
@[simp] theorem State.finish_dec (s : State) (r) : (s.finish r).dec = s.dec := rfl
@[simp] theorem State.finish_len (s : State) (r) : (s.finish r).len = s.len := rfl
@[simp] theorem State.finish_cfg (s : State) (r) : (s.finish r).cfg = s.cfg := rfl
@[simp] theorem State.finish_port (s : State) (r) : (s.finish r).port = s.port := rfl
@[simp] theorem State.finish_status (s : State) (r) : (s.finish r).status = plainStatus r s.pend := rfl

@[simp] theorem State.rejectResponse_crc (s : State) (r f) : (s.rejectResponse r f).crc = s.crc := rfl
@[simp] theorem State.rejectResponse_pend (s : State) (r f) : (s.rejectResponse r f).pend = s.pend := rfl
@[simp] theorem State.rejectResponse_tx (s : State) (r f) : (s.rejectResponse r f).tx = s.tx := rfl
@[simp] theorem State.rejectResponse_dec (s : State) (r f) : (s.rejectResponse r f).dec = none := rfl
@[simp] theorem State.rejectResponse_len (s : State) (r f) : (s.rejectResponse r f).len = s.len := rfl
@[simp] theorem State.rejectResponse_cfg (s : State) (r f) : (s.rejectResponse r f).cfg = s.cfg := rfl
@[simp] theorem State.rejectResponse_port (s : State) (r f) : (s.rejectResponse r f).port = s.port := rfl
@[simp] theorem State.rejectResponse_status (s : State) (r f) :
    (s.rejectResponse r f).status = packStatus r s.pend.isSome f := rfl

@[simp] theorem State.issue_port (s : State) (c) : (s.issue c).port = .command c :: s.port := rfl

/-- What the host issues is what the block takes next, in the state it was issued in. -/
@[simp] theorem State.nextEvent_issue (s : State) (c) : (s.issue c).nextEvent = some (.command c, s) := rfl

/-- A state is determined by its fields: putting its own port back changes nothing. -/
theorem State.with_port_self (s : State) : { s with port := s.port } = s := rfl

end Sys2Proof.Machine
end

