-- ==== Sys2Proof/Laws/Ops.lean ====
section
/-! SUPPORT. For each shared operation, once, everything it can do; later proofs cite these and do not unfold it. -/

namespace Sys2Proof.Machine

/-- ENCODE_REQ with a request pending (41_encode.md R130). -/
theorem encodeRequest_busy {s : State} {p : Pending} (h : s.pend = some p) (addr : Byte) (req : RequestPDU) :
    s.encodeRequest addr req = s.finish .busy := by simp [State.encodeRequest, h]

/-- ENCODE_REQ with none pending. -/
theorem encodeRequest_idle {s : State} (h : s.pend = none) (addr : Byte) (req : RequestPDU) :
    s.encodeRequest addr req =
      { s with
        tx := frame addr (encReq req)
        pend := some { addr := addr, fc := byteAt (frame addr (encReq req)) 1,
                       expLen := BitVec.ofNat 8 (expectedResponseLen req) } }.finish .ok := by
  simp [State.encodeRequest, h]

/-- DECODE_REQ ends in one of two ways (42_decode.md R157). -/
theorem decodeRequest_cases (s : State) (B : Bytes) :
    (∃ c, decReq s.cfg.reservedPolicy B = .error c ∧ s.decodeRequest B = { s with dec := none }.finish c) ∨
    (∃ adu, decReq s.cfg.reservedPolicy B = .ok adu ∧ s.decodeRequest B = { s with dec := some adu }.finish .ok) := by
  unfold State.decodeRequest
  cases h : decReq s.cfg.reservedPolicy B with
  | error c => exact .inl ⟨c, rfl, rfl⟩
  | ok adu => exact .inr ⟨adu, rfl, rfl⟩

/-- The checks before the field parse pass exactly when the length and the function code agree (R142 to R144). -/
theorem frameFc_ok {min : Nat} {len : FunctionCode → Nat} (hmin : ∀ fc, min ≤ len fc) {B : Bytes} {fc : FunctionCode} :
    frameFc min len B = .ok fc ↔ fcOf (byteAt B 1) = some fc ∧ B.length = len fc := by
  unfold frameFc
  have := hmin fc
  cases h : fcOf (byteAt B 1) with
  | none => split <;> simp
  | some fc' =>
    by_cases hl : B.length < min
    · simp only [hl, if_true, reduceCtorEq, false_iff, not_and, Option.some.injEq]
      rintro rfl; omega
    · by_cases hn : B.length = len fc'
      · have hl' : ¬ len fc' < min := hn ▸ hl
        simp only [hl', if_false, hn, ne_eq, not_true_eq_false, Except.ok.injEq, Option.some.injEq]
        constructor
        · rintro rfl; exact ⟨rfl, rfl⟩
        · exact And.left
      · simp only [hl, hn, if_false, ne_eq, not_false_eq_true, if_true, reduceCtorEq, false_iff, not_and,
          Option.some.injEq]
        rintro rfl; exact hn

/-- A request frame is accepted exactly when its function code and length agree, its fields parse and its CRC holds
(R141, R157). -/
theorem decReq_ok {policy : ReservedPolicy} {B : Bytes} {adu : DecodedADU} :
    decReq policy B = .ok adu ↔
      ∃ fc pdu, fcOf (byteAt B 1) = some fc ∧ B.length = reqLen fc ∧ parseReq policy fc B = .ok pdu ∧
        crcField B = crc16 (crcCovered B) ∧ adu = .req (byteAt B 0) pdu := by
  unfold decReq afterCrc
  constructor
  · intro h
    split at h
    · cases h
    · rename_i fc hfc
      obtain ⟨h1, h2⟩ := (frameFc_ok minReq_le).1 hfc
      split at h
      · cases h
      · rename_i pdu hp
        split at h
        · cases h
        · rename_i hc
          exact ⟨fc, pdu, h1, h2, hp, not_not.1 hc, by cases h; rfl⟩
  · rintro ⟨fc, pdu, h1, h2, hp, hc, rfl⟩
    simp [(frameFc_ok minReq_le).2 ⟨h1, h2⟩, hp, hc]

/-- A response frame is accepted exactly when its function code and length agree and its CRC holds (R164). -/
theorem decRsp_ok {B : Bytes} {r : DecodedADU × Bool} :
    decRsp B = .ok r ↔
      ∃ fc, fcOf (byteAt B 1) = some fc ∧ B.length = rspLen fc ∧ crcField B = crc16 (crcCovered B) ∧
        r = (.rsp (byteAt B 0) (parseRsp fc B).1, (parseRsp fc B).2) := by
  unfold decRsp afterCrc
  constructor
  · intro h
    split at h
    · cases h
    · rename_i fc hfc
      obtain ⟨h1, h2⟩ := (frameFc_ok minRsp_le).1 hfc
      split at h
      · cases h
      · rename_i hc
        exact ⟨fc, h1, h2, not_not.1 hc, by cases h; rfl⟩
  · rintro ⟨fc, h1, h2, hc, rfl⟩
    simp [(frameFc_ok minRsp_le).2 ⟨h1, h2⟩, hc]

/-- Everything DECODE_RSP can do (42_decode.md R167): the frame is rejected, is delivered without a context, or meets
the context's checks. -/
theorem decodeResponse_cases (s : State) (B : Bytes) :
    (∃ c, decRsp B = .error c ∧ s.decodeResponse B = { s with pend := none }.rejectResponse c
      { ctx := s.pend.isSome, addrMatch := false, variantMatch := false, modeDefaulted := false }) ∨
    (∃ adu d, decRsp B = .ok (adu, d) ∧ s.pend = none ∧ s.decodeResponse B =
      { s with pend := none, dec := some adu }.report .ok
        { ctx := false, addrMatch := false, variantMatch := false, modeDefaulted := d }) ∨
    (∃ adu d p, decRsp B = .ok (adu, d) ∧ s.pend = some p ∧ s.decodeResponse B =
      { s with pend := none }.checkContext p (byteAt B 1 == p.fc) adu d) := by
  unfold State.decodeResponse
  rcases h : decRsp B with c | ⟨adu, d⟩
  · exact .inl ⟨c, rfl, rfl⟩
  · cases hp : s.pend with
    | none => exact .inr (.inl ⟨adu, d, rfl, rfl, rfl⟩)
    | some p => exact .inr (.inr ⟨adu, d, p, rfl, rfl, rfl⟩)

/-- Everything the context's checks can do (R165, R166). -/
theorem checkContext_cases (s : State) (p : Pending) (vm : Bool) (adu : DecodedADU) (d : Bool) :
    (aduAddr adu ≠ p.addr ∧ s.checkContext p vm adu d = s.rejectResponse .addressMismatch
      { ctx := true, addrMatch := false, variantMatch := false, modeDefaulted := false }) ∨
    (aduAddr adu = p.addr ∧ vm = false ∧ s.cfg.strictVariant = true ∧
      s.checkContext p vm adu d = s.rejectResponse .unexpectedVariant
        { ctx := true, addrMatch := true, variantMatch := false, modeDefaulted := false }) ∨
    (aduAddr adu = p.addr ∧ (vm = true ∨ s.cfg.strictVariant = false) ∧
      s.checkContext p vm adu d = { s with dec := some adu }.report .ok
        { ctx := true, addrMatch := true, variantMatch := vm, modeDefaulted := d }) := by
  unfold State.checkContext
  by_cases ha : aduAddr adu = p.addr <;> cases vm <;> cases hs : s.cfg.strictVariant <;> simp [ha]

/-- DECODE_RSP leaves the generator, the transmitter, the length register, the parameters and the host's events alone,
and closes the context (R167, R168). -/
theorem decodeResponse_frame (s : State) (B : Bytes) :
    (s.decodeResponse B).crc = s.crc ∧ (s.decodeResponse B).tx = s.tx ∧ (s.decodeResponse B).len = s.len ∧
      (s.decodeResponse B).cfg = s.cfg ∧ (s.decodeResponse B).port = s.port ∧ (s.decodeResponse B).pend = none := by
  rcases decodeResponse_cases s B with ⟨c, -, h⟩ | ⟨adu, d, -, -, h⟩ | ⟨adu, d, p, -, -, h⟩
  · simp [h]
  · simp [h]
  · rcases checkContext_cases { s with pend := none } p (byteAt B 1 == p.fc) adu d with
      ⟨-, h'⟩ | ⟨-, -, -, h'⟩ | ⟨-, -, h'⟩ <;> simp [h, h']

/-- DECODE_REQ leaves every register but `DEC` and `STATUS` alone (R157). -/
theorem decodeRequest_frame (s : State) (B : Bytes) :
    (s.decodeRequest B).crc = s.crc ∧ (s.decodeRequest B).tx = s.tx ∧ (s.decodeRequest B).len = s.len ∧
      (s.decodeRequest B).cfg = s.cfg ∧ (s.decodeRequest B).port = s.port ∧ (s.decodeRequest B).pend = s.pend := by
  rcases decodeRequest_cases s B with ⟨c, -, h⟩ | ⟨adu, -, h⟩ <;> simp [h]

end Sys2Proof.Machine
end

