-- ==== Sys2Proof/Laws/PerInstr.lean ====
section
/-! SUPPORT. Per-instruction family `SizedEncoding`: what a well-formed instruction encodes to has the size its encoding
gives it: a legal command word with an operand the interface carries (30_encoding.md R61, R62; 20_memory.md R41), or a
frame of its function code's length (R85). -/

namespace Sys2Proof.Laws.SizedEncoding
open Sys2Proof Sys2Proof.Machine

/-- An encoded form of the size its encoding gives it. -/
def sized : Encoded → Prop
  | .command c => 1 ≤ c.cmd.toNat ∧ c.cmd.toNat ≤ 8 ∧ c.bytes.length ≤ 255
  | .requestFrame B => ∃ fc, fcOf (byteAt B 1) = some fc ∧ B.length = reqLen fc
  | .responseFrame B => ∃ fc, fcOf (byteAt B 1) = some fc ∧ B.length = rspLen fc

/-- The family's statement. -/
def Statement (i : Instr) : Prop := i.wellFormed = true → sized (encode i)

/-- A command word of the opcode map with a short operand is sized. -/
theorem sized_command {c : HostCommand} (n : Byte) (h : c.cmd = n) (hn : 1 ≤ n.toNat ∧ n.toNat ≤ 8)
    (hb : c.bytes.length ≤ 255) : sized (.command c) := by subst h; exact ⟨hn.1, hn.2, hb⟩

theorem crcInit : Statement .crcInit :=
  fun _ => sized_command 1 rfl (by decide) (Nat.zero_le _)
theorem crcUpdate (b) : Statement (.crcUpdate b) :=
  fun _ => sized_command 2 rfl (by decide) (Nat.zero_le _)
theorem encodeReq (a r) : Statement (.encodeReq a r) :=
  fun _ => sized_command 3 rfl (by decide) (Nat.zero_le _)
theorem encodeRsp (a r) : Statement (.encodeRsp a r) :=
  fun _ => sized_command 4 rfl (by decide) (Nat.zero_le _)
theorem decodeReq (B) : Statement (.decodeReq B) :=
  fun h => sized_command 5 rfl (by decide) (by simpa [Instr.wellFormed, operandFits] using h)
theorem decodeRsp (B) : Statement (.decodeRsp B) :=
  fun h => sized_command 6 rfl (by decide) (by simpa [Instr.wellFormed, operandFits] using h)
theorem respLen (r) : Statement (.respLen r) :=
  fun _ => sized_command 7 rfl (by decide) (Nat.zero_le _)
theorem abort : Statement .abort :=
  fun _ => sized_command 8 rfl (by decide) (Nat.zero_le _)
theorem reqManage (a s r d c) : Statement (.reqManage a s r d c) := fun _ => ⟨.manage, fcOf_fcCode .manage, rfl⟩
theorem reqCmdForce (a f c) : Statement (.reqCmdForce a f c) := fun _ => ⟨.command, fcOf_fcCode .command, rfl⟩
theorem reqCmdPosition (a p c) : Statement (.reqCmdPosition a p c) := fun _ => ⟨.command, fcOf_fcCode .command, rfl⟩
theorem reqCmdKinematic (a z c) : Statement (.reqCmdKinematic a z c) := fun _ => ⟨.command, fcOf_fcCode .command, rfl⟩
theorem reqCmdHaptic (a h c) : Statement (.reqCmdHaptic a h c) := fun _ => ⟨.command, fcOf_fcCode .command, rfl⟩
theorem reqCmdSleep (a z c) : Statement (.reqCmdSleep a z c) := fun _ => ⟨.command, fcOf_fcCode .command, rfl⟩
theorem reqRead (a r w c) : Statement (.reqRead a r w c) := fun _ => ⟨.read, fcOf_fcCode .read, rfl⟩
theorem reqWrite (a r w v c) : Statement (.reqWrite a r w v c) := fun _ => ⟨.write, fcOf_fcCode .write, rfl⟩
theorem rspManage (a s r d c) : Statement (.rspManage a s r d c) := fun _ => ⟨.manage, fcOf_fcCode .manage, rfl⟩
theorem rspCommand (a b c) : Statement (.rspCommand a b c) := fun _ => ⟨.command, fcOf_fcCode .command, rfl⟩
theorem rspRead (a x m b c) : Statement (.rspRead a x m b c) := fun _ => ⟨.read, fcOf_fcCode .read, rfl⟩
theorem rspWrite (a m b c) : Statement (.rspWrite a m b c) := fun _ => ⟨.write, fcOf_fcCode .write, rfl⟩

end Sys2Proof.Laws.SizedEncoding
end

