-- ==== Sys2Proof/Laws/Status.lean ====
section
/-! SUPPORT. How the fields of a packed STATUS read back (10_state.md R27), and the bound on RESULT (R28). -/

namespace Sys2Proof.Machine

/-- Packing with the code as four plain bits: every field is where R27 puts it. -/
theorem packed_fields (c : BitVec 4) (md vm am ctx pend : Bool) :
    let v : U16 := 0#7 ++ BitVec.ofBool md ++ BitVec.ofBool vm ++ BitVec.ofBool am ++ BitVec.ofBool ctx
      ++ BitVec.ofBool pend ++ c
    statusResult v = c ∧ statusPending v = pend ∧ statusCtx v = ctx ∧ statusAddrMatch v = am ∧
      statusVariantMatch v = vm ∧ statusModeDefaulted v = md ∧ statusReserved v = 0 := by
  revert c md vm am ctx pend; decide

@[simp] theorem statusResult_packStatus (r p f) : statusResult (packStatus r p f) = r.code := (packed_fields ..).1
@[simp] theorem statusPending_packStatus (r p f) : statusPending (packStatus r p f) = p := (packed_fields ..).2.1
@[simp] theorem statusCtx_packStatus (r p f) : statusCtx (packStatus r p f) = f.ctx := (packed_fields ..).2.2.1
@[simp] theorem statusAddrMatch_packStatus (r p f) : statusAddrMatch (packStatus r p f) = f.addrMatch :=
  (packed_fields ..).2.2.2.1
@[simp] theorem statusVariantMatch_packStatus (r p f) : statusVariantMatch (packStatus r p f) = f.variantMatch :=
  (packed_fields ..).2.2.2.2.1
@[simp] theorem statusModeDefaulted_packStatus (r p f) : statusModeDefaulted (packStatus r p f) = f.modeDefaulted :=
  (packed_fields ..).2.2.2.2.2.1
@[simp] theorem statusReserved_packStatus (r p f) : statusReserved (packStatus r p f) = 0 :=
  (packed_fields ..).2.2.2.2.2.2

/-- RESULT never exceeds 11 (R28). -/
theorem ResultCode.code_le (r : ResultCode) : r.code.toNat ≤ 11 := by cases r <;> decide

/-- No two results share a code (60_exceptions.md R186). -/
theorem ResultCode.code_inj {r r' : ResultCode} (h : r.code = r'.code) : r = r' := by
  cases r <;> cases r' <;> first | rfl | exact absurd h (by decide)

end Sys2Proof.Machine
end

