-- ==== Sys2Proof/Machine/Render.lean ====
section
/-! DEFINITION. The command text of 30_encoding.md R90, as 95_test_vectors.md writes it. Notation only
(92_eei_decisions.md D33): no other definition reads it. The frame rows have no command text. -/

namespace Sys2Proof.Machine

/-- `inner` in braces. -/
def braced (inner : String) : String :=
  String.singleton (Char.ofNat 0x7B) ++ inner ++ String.singleton (Char.ofNat 0x7D)

/-- `Variant{field: value, ...}` (00_scope.md R11), and `Variant` for a variant without fields. -/
def tagged (name : String) (fields : List (String × String)) : String :=
  match fields with
  | [] => name
  | _ => name ++ braced (", ".intercalate (fields.map fun f => f.1 ++ ": " ++ f.2))

/-- Two upper-case hexadecimal digits (R7). -/
def hexByte (b : Byte) : String :=
  String.ofList ((Nat.toDigits 16 (b.toNat / 16) ++ Nat.toDigits 16 (b.toNat % 16)).map Char.toUpper)

/-- A byte operand, `0x` prefixed (R7). -/
def textByte (b : Byte) : String := "0x" ++ hexByte b

/-- An unsigned number in decimal (R7). -/
def textNat {w : Nat} (v : BitVec w) : String := Nat.repr v.toNat

/-- An `i32` value in decimal. -/
def textI32 (v : I32) : String :=
  match sext32 v with
  | .ofNat n => Nat.repr n
  | .negSucc n => "-" ++ Nat.repr (n + 1)

/-- A byte sequence in brackets, in wire order (R7, R90). -/
def textBytes (B : Bytes) : String := "[" ++ " ".intercalate (B.map hexByte) ++ "]"

/-- ORCA's name of a Mode (R78). -/
def textMode : Mode → String
  | .sleepMode => "SleepMode"
  | .forceMode => "ForceMode"
  | .positionMode => "PositionMode"
  | .hapticMode => "HapticMode"
  | .kineticMode => "KineticMode"
  | .pulseWidthMode => "PulseWidthMode"
  | .autoZeroingMode => "AutoZeroingMode"

/-- A Command payload in ORCA's constructor form. -/
def textPayload : CommandPayload → String
  | .forceControlStream f => tagged "ForceControlStream" [("force_mn", textI32 f)]
  | .positionControlStream p => tagged "PositionControlStream" [("position_um", textI32 p)]
  | .kinematicDataStream => tagged "KinematicDataStream" []
  | .hapticDataStream h => tagged "HapticDataStream" [("haptic_status_register", textNat h)]
  | .sleepDataStream => tagged "SleepDataStream" []

/-- A request PDU value. -/
def textReq : RequestPDU → String
  | .manage s r d =>
    tagged "Manage" [("sub_function_code", match s with | .enable => "Enable" | .disable => "Disable"),
      ("baud_rate", textNat r), ("delay_us", textNat d)]
  | .command p => "Command" ++ braced (textPayload p)
  | .read a w => tagged "Read" [("register_address", textNat a), ("register_width", textNat w)]
  | .write a w v =>
    tagged "Write" [("register_address", textNat a), ("register_width", textNat w), ("register_data", textNat v)]

/-- A CommandResponse record. -/
def textBody (cr : CommandResponse) : String :=
  tagged "" [("position_um", textI32 cr.positionUm), ("force_mn", textI32 cr.forceMn), ("power_w", textNat cr.powerW),
    ("temperature_c", textNat cr.temperatureC), ("voltage_mv", textNat cr.voltageMv), ("error", textNat cr.error)]

/-- A response PDU value. -/
def textRsp : ResponsePDU → String
  | .manage s r d => tagged "Manage" [("state_command", textNat s), ("baud_rate", textNat r), ("delay_us", textNat d)]
  | .command cr => tagged "Command" [("body", textBody cr)]
  | .read x m cr =>
    tagged "Read" [("read_register_value", textNat x), ("mode_of_operation", textMode m),
      ("command_response", textBody cr)]
  | .write m cr => tagged "Write" [("mode_of_operation", textMode m), ("command_response", textBody cr)]

/-- The command line of R90, for the eight commands. -/
def commandText : Instr → Option String
  | .crcInit => some "CRC_INIT"
  | .crcUpdate b => some ("CRC_UPDATE " ++ textByte b)
  | .encodeReq addr req => some ("ENCODE_REQ " ++ textByte addr ++ ", " ++ textReq req)
  | .encodeRsp addr rsp => some ("ENCODE_RSP " ++ textByte addr ++ ", " ++ textRsp rsp)
  | .decodeReq B => some ("DECODE_REQ " ++ textBytes B)
  | .decodeRsp B => some ("DECODE_RSP " ++ textBytes B)
  | .respLen req => some ("RESP_LEN " ++ textReq req)
  | .abort => some "ABORT"
  | .reqManage _ _ _ _ _ | .reqCmdForce _ _ _ | .reqCmdPosition _ _ _ | .reqCmdKinematic _ _ _ | .reqCmdHaptic _ _ _
  | .reqCmdSleep _ _ _ | .reqRead _ _ _ _ | .reqWrite _ _ _ _ _ | .rspManage _ _ _ _ _ | .rspCommand _ _ _
  | .rspRead _ _ _ _ _ | .rspWrite _ _ _ _ => none

end Sys2Proof.Machine
end

