-- ==== Sys2Proof/Tests/Slice0.lean ====
section
/-! SUPPORT. Tests: the well-formedness check, decoding of words written out from the spec, single commands with the
results of 95_test_vectors.md, and for every statement with hypotheses values that meet them (`witness_…`). -/

namespace Sys2Proof.Tests
open Sys2Proof Sys2Proof.Machine

-- one theorem at a time: the many small ones would otherwise each start a thread
set_option Elab.async false

/-! ### Helpers -/

/-- The next state, if there is one. -/
def nextOf (o : Host.Outcome State Fault Refusal) : Option State :=
  match o with
  | .next s => some s
  | _ => none

/-- Something of the next state. -/
def after {α : Type} (o : Host.Outcome State Fault Refusal) (f : State → α) : Option α := (nextOf o).map f

/-- The state after reset with a request pending. -/
def awaiting (addr fc expLen : Byte) : State := { State.reset with pend := some ⟨addr, fc, expLen⟩ }

/-- The state after reset with both parameters away from their defaults. -/
def strict (s : State) : State := { s with cfg := ⟨.reject, true⟩ }

/-- CR0 of 95_test_vectors.md. -/
def cr0 : CommandResponse := ⟨12000, 80000, 25, 24, 24150, 0x0000⟩

/-- The body bytes of CR0 (V5). -/
def body0 : Bytes := [0x00, 0x00, 0x2E, 0xE0, 0x00, 0x01, 0x38, 0x80, 0x00, 0x19, 0x18, 0x5E, 0x56, 0x00, 0x00]

/-- Frame e1 (V7), which is also s1 (V8). -/
def e1 : Bytes := [0x01, 0x41, 0xFF, 0x00, 0x00, 0x09, 0x89, 0x68, 0x00, 0x32, 0xA4, 0xC1]
/-- Frame e2. -/
def e2 : Bytes := [0x01, 0x41, 0x00, 0x00, 0x00, 0x00, 0x00, 0x00, 0x00, 0x00, 0x1D, 0x91]
/-- Frame e4. -/
def e4 : Bytes := [0x01, 0x64, 0x1C, 0x00, 0x00, 0x03, 0xE8, 0xD2, 0x98]
/-- Frame e8. -/
def e8 : Bytes := [0x01, 0x64, 0x1E, 0x00, 0x00, 0x2E, 0xE0, 0xB7, 0xCE]
/-- Frame e10. -/
def e10 : Bytes := [0x01, 0x64, 0x20, 0x00, 0x00, 0x00, 0x00, 0x82, 0x23]
/-- Frame e11. -/
def e11 : Bytes := [0x01, 0x64, 0x22, 0x12, 0x34, 0x56, 0x78, 0x80, 0xD7]
/-- Frame e12. -/
def e12 : Bytes := [0x01, 0x64, 0x00, 0x00, 0x00, 0x00, 0x00, 0x03, 0xE4]
/-- Frame e14. -/
def e14 : Bytes := [0x01, 0x68, 0x00, 0x10, 0x02, 0x89, 0xA1]
/-- Frame e16. -/
def e16 : Bytes := [0x01, 0x69, 0x00, 0x03, 0x01, 0x00, 0x00, 0x00, 0x03, 0xBC, 0xD0]
/-- Frame s3 (V8). -/
def s3 : Bytes := [0x01, 0x64] ++ body0 ++ [0x5B, 0x8C]
/-- Frame s4. -/
def s4 : Bytes := [0x02, 0x64] ++ body0 ++ [0xAB, 0x7C]
/-- Frame s5. -/
def s5 : Bytes := [0x01, 0x64, 0xFF, 0xFF, 0xD1, 0x20, 0xFF, 0xFE, 0xC7, 0x80, 0xFF, 0xFF, 0xFF, 0x00, 0x00, 0x01, 0x00, 0xD0,
  0xEB]
/-- Frame s7. -/
def s7 : Bytes := [0x01, 0x68, 0xDE, 0xAD, 0xBE, 0xEF, 0x03] ++ body0 ++ [0x75, 0x4F]
/-- Frame s9. -/
def s9 : Bytes := [0x01, 0x69, 0x02] ++ body0 ++ [0x0F, 0xB2]
/-- Frame s10. -/
def s10 : Bytes := [0x01, 0x69, 0x37] ++ body0 ++ [0xD8, 0xF5]
/-- The Read response of V11 r16, unknown Mode 0x09. -/
def r16 : Bytes := [0x01, 0x68, 0x00, 0x00, 0x00, 0x07, 0x09] ++ body0 ++ [0x4F, 0xC9]
/-- The Write response of V11 r19, unknown Mode 0xFF. -/
def r19 : Bytes := [0x01, 0x69, 0xFF] ++ body0 ++ [0x8F, 0x63]
/-- The request of V10 d12, Sleep with a reserved byte 1. -/
def d12 : Bytes := [0x01, 0x64, 0x00, 0x00, 0x00, 0x00, 0x01, 0xC2, 0x24]
/-- The request of V10 d12b, Kinematic with a reserved byte 0xFF. -/
def d12b : Bytes := [0x01, 0x64, 0x20, 0xFF, 0x00, 0x00, 0x00, 0xB2, 0x37]

/-! ### Well-formedness (20_memory.md R41): each check with a term it refuses -/

theorem test_wf_decodeReq : (Instr.decodeReq (List.replicate 256 0)).wellFormed = false ∧
    (Instr.decodeReq (List.replicate 255 0)).wellFormed = true := by decide +kernel
theorem test_wf_decodeRsp : (Instr.decodeRsp (List.replicate 256 0)).wellFormed = false ∧
    (Instr.decodeRsp (List.replicate 255 0)).wellFormed = true := by decide +kernel

/-! ### Decoding: the command words of 30_encoding.md R62 -/

theorem test_decode_crcInit : decodeCommand (zeroOperands 0x01) = .ok .crcInit := by decide
theorem test_decode_crcUpdate : decodeCommand { zeroOperands 0x02 with b := 0x41 } = .ok (.crcUpdate 0x41) := by decide
theorem test_decode_encodeReq : decodeCommand { zeroOperands 0x03 with addr := 5, req := .read 0x10 2 } =
    .ok (.encodeReq 5 (.read 0x10 2)) := by decide
theorem test_decode_encodeRsp : decodeCommand { zeroOperands 0x04 with addr := 5, rsp := .command cr0 } =
    .ok (.encodeRsp 5 (.command cr0)) := by decide
theorem test_decode_decodeReq : decodeCommand { zeroOperands 0x05 with bytes := e14 } = .ok (.decodeReq e14) := by decide
theorem test_decode_decodeRsp : decodeCommand { zeroOperands 0x06 with bytes := e14 } = .ok (.decodeRsp e14) := by decide
theorem test_decode_respLen : decodeCommand { zeroOperands 0x07 with req := .read 0x10 2 } = .ok (.respLen (.read 0x10 2)) :=
  by decide
theorem test_decode_abort : decodeCommand (zeroOperands 0x08) = .ok .abort := by decide
/-- V13 c4 to c8. -/
theorem test_decode_illegal : [0x00, 0x09, 0x0F, 0x10, 0x21].map (fun w => decodeCommand (zeroOperands w)) =
    List.replicate 5 (.error .illegalCommand) := by decide
theorem test_decode_overlong : decodeCommand { zeroOperands 0x05 with bytes := List.replicate 256 0 } =
    .error .operandTooLong := by decide +kernel

/-! ### Decoding: the frames of V7 and V8, byte by byte -/

theorem test_decode_reqManage : decodeRequestFrame e1 = .ok (.reqManage 1 0xFF00 625000 50 0xC1A4) := by decide
theorem test_decode_reqCmdForce : decodeRequestFrame e4 = .ok (.reqCmdForce 1 1000 0x98D2) := by decide
theorem test_decode_reqCmdPosition : decodeRequestFrame e8 = .ok (.reqCmdPosition 1 12000 0xCEB7) := by decide
theorem test_decode_reqCmdKinematic : decodeRequestFrame e10 = .ok (.reqCmdKinematic 1 0 0x2382) := by decide
theorem test_decode_reqCmdHaptic : decodeRequestFrame e11 = .ok (.reqCmdHaptic 1 0x12345678 0xD780) := by decide
theorem test_decode_reqCmdSleep : decodeRequestFrame e12 = .ok (.reqCmdSleep 1 0 0xE403) := by decide
theorem test_decode_reqRead : decodeRequestFrame e14 = .ok (.reqRead 1 0x0010 2 0xA189) := by decide
theorem test_decode_reqWrite : decodeRequestFrame e16 = .ok (.reqWrite 1 0x0003 1 3 0xD0BC) := by decide
theorem test_decode_rspManage : decodeResponseFrame e1 = .ok (.rspManage 1 0xFF00 625000 50 0xC1A4) := by decide
theorem test_decode_rspCommand : decodeResponseFrame s5 =
    .ok (.rspCommand 1 ⟨i32Pattern (-12000), i32Pattern (-80000), 65535, 255, 0, 0x0001⟩ 0xEBD0) := by decide
theorem test_decode_rspRead : decodeResponseFrame s7 = .ok (.rspRead 1 0xDEADBEEF 3 cr0 0x4F75) := by decide
theorem test_decode_rspWrite : decodeResponseFrame s10 = .ok (.rspWrite 1 55 cr0 0xF5D8) := by decide
/-- V10 d1, d3, d4, d8: rejected by name. -/
theorem test_decode_rejects : [[], [0x01, 0x03, 0x00, 0x00, 0x00, 0x0A, 0xC5, 0xCD], e4 ++ [0x00],
    [0x01, 0x64, 0x1D, 0x00, 0x00, 0x03, 0xE8, 0xEF, 0x58]].map decodeRequestFrame =
    [.error .frameTooShort, .error .unknownFunctionCode, .error .lengthMismatch, .error .unknownSubCode] := by decide

/-! ### Words of spec/opcode_table.json -/

theorem test_table_abort : decodeTableWord 8 0x08 = some .abort := by decide
theorem test_table_force : decodeTableWord 16 0x641C = some (.reqCmdForce 0 0 0) := by decide
theorem test_table_sleep : decodeTableWord 16 0x6400 = some (.reqCmdSleep 0 0 0) := by decide
theorem test_table_rspRead : decodeTableWord 8 0x68 = some (.rspRead 0 0 0 ⟨0, 0, 0, 0, 0, 0⟩ 0) := by decide
/-- The word is run by the very next step. -/
theorem test_table_step : after (step ((awaiting 1 0x64 19).withFetchWord 8 0x08)) (fun s => (s.pend, s.status, s.port)) =
    some (none, 0x0000, []) := by decide

/-! ### The CRC (V1, P1) -/

/-- The check value of CRC-16/MODBUS. -/
theorem test_crc_check : crc16 [0x31, 0x32, 0x33, 0x34, 0x35, 0x36, 0x37, 0x38, 0x39] = 0x4B37 := by decide +kernel
theorem test_crc_modbus_example : crc16 [0x01, 0x03, 0x00, 0x00, 0x00, 0x0A] = 0xCDC5 := by decide +kernel
theorem test_crc_0x80 : crc16 [0x80] = 0xE0BE := by decide +kernel
theorem test_crcInit : after (exec .crcInit { awaiting 1 0x64 19 with crc := 0x1234 }) (fun s => (s.crc, s.status)) =
    some (0xFFFF, 0x0010) := by decide
theorem test_crcUpdate : after (exec (.crcUpdate 0x64) { State.reset with crc := 0x807E }) (fun s => (s.crc, s.status)) =
    some (0xCB01, 0x0000) := by decide +kernel

/-! ### Encoding (V7, V8, V13) -/

/-- V7 e8. -/
theorem test_encodeReq : after (exec (.encodeReq 1 (.command (.positionControlStream (i32Pattern 12000)))) State.reset)
    (fun s => (s.tx, s.pend, s.status)) = some (e8, some ⟨0x01, 0x64, 19⟩, 0x0010) := by decide +kernel
/-- V13 c1. -/
theorem test_encodeReq_busy : nextOf (exec (.encodeReq 1 (.read 0x10 2)) (awaiting 1 0x41 12)) =
    some { awaiting 1 0x41 12 with status := 0x001A } := by decide +kernel
/-- V7 e9: a negative position. -/
theorem test_frame_e9 : frame 2 (encReq (.command (.positionControlStream (i32Pattern (-5000))))) =
    [0x02, 0x64, 0x1E, 0xFF, 0xFF, 0xEC, 0x78, 0xD4, 0x20] := by decide +kernel
/-- V7 e1, e10, e11, e12, e14, e16. -/
theorem test_frames : [frame 1 (encReq (.manage .enable 625000 50)), frame 1 (encReq (.command .kinematicDataStream)),
    frame 1 (encReq (.command (.hapticDataStream 0x12345678))), frame 1 (encReq (.command .sleepDataStream)),
    frame 1 (encReq (.read 0x0010 2)), frame 1 (encReq (.write 0x0003 1 3))] = [e1, e10, e11, e12, e14, e16] := by
  decide +kernel
/-- V13 c10. -/
theorem test_encodeRsp : after (exec (.encodeRsp 1 (.command cr0)) (awaiting 1 0x64 19)) (fun s => (s.tx, s.pend, s.status)) =
    some (s3, some ⟨1, 0x64, 19⟩, 0x0010) := by decide +kernel
/-- V8 s5, s7, s10: negative numbers, ErrorFlags low byte first, Mode codes. -/
theorem test_response_frames : [frame 1 (encRsp (.command ⟨i32Pattern (-12000), i32Pattern (-80000), 65535, 255, 0, 1⟩)),
    frame 1 (encRsp (.read 0xDEADBEEF .positionMode cr0)), frame 1 (encRsp (.write .autoZeroingMode cr0))] =
    [s5, s7, s10] := by decide +kernel

/-! ### Decoding requests (V10) -/

/-- d9: the sub-code is checked before the CRC. -/
theorem test_decodeReq_order : after (exec (.decodeReq [0x01, 0x64, 0x1D, 0x00, 0x00, 0x03, 0xE8, 0xD2, 0x98]) State.reset)
    (fun s => (s.dec, s.status)) = some (none, 0x0005) := by decide +kernel
/-- d13 with a request pending. -/
theorem test_decodeReq_crc : after (exec (.decodeReq [0x01, 0x64, 0x1C, 0x00, 0x00, 0x03, 0xE8, 0xD3, 0x98])
    (awaiting 1 0x64 19)) (fun s => (s.dec, s.status)) = some (none, 0x0012) := by decide +kernel
/-- d10, its sub-function. -/
theorem test_reqManage : after (exec (.reqManage 1 0x1234 0x00098968 50 0xD31E) State.reset) (fun s => (s.dec, s.status)) =
    some (none, 0x0006) := by decide +kernel
/-- e5. -/
theorem test_reqCmdForce : after (exec (.reqCmdForce 1 0xFFFFFFFF 0xB2D3) State.reset) (fun s => (s.dec, s.status)) =
    some (some (.req 1 (.command (.forceControlStream (i32Pattern (-1))))), 0x0000) := by decide +kernel
theorem test_reqCmdPosition : after (exec (.reqCmdPosition 1 12000 0xCEB7) State.reset) (fun s => (s.dec, s.status)) =
    some (some (.req 1 (.command (.positionControlStream 12000))), 0x0000) := by decide +kernel
/-- d12b under both policies. -/
theorem test_reqCmdKinematic : after (exec (.reqCmdKinematic 1 0xFF000000 0x37B2) State.reset) (fun s => (s.dec, s.status)) =
    some (some (.req 1 (.command .kinematicDataStream)), 0x0000) := by decide +kernel
theorem test_reqCmdKinematic_reject : after (exec (.reqCmdKinematic 1 0xFF000000 0x37B2) (strict State.reset))
    (fun s => (s.dec, s.status)) = some (none, 0x0007) := by decide +kernel
theorem test_reqCmdHaptic : after (exec (.reqCmdHaptic 1 0x12345678 0xD780) State.reset) (fun s => (s.dec, s.status)) =
    some (some (.req 1 (.command (.hapticDataStream 0x12345678))), 0x0000) := by decide +kernel
/-- d12 under both policies. -/
theorem test_reqCmdSleep : after (exec (.reqCmdSleep 1 1 0x24C2) State.reset) (fun s => (s.dec, s.status)) =
    some (some (.req 1 (.command .sleepDataStream)), 0x0000) := by decide +kernel
theorem test_reqCmdSleep_reject : after (exec (.reqCmdSleep 1 1 0x24C2) (strict State.reset)) (fun s => (s.dec, s.status)) =
    some (none, 0x0007) := by decide +kernel
theorem test_reqRead : after (exec (.reqRead 1 0x0010 2 0xA189) State.reset) (fun s => (s.dec, s.status)) =
    some (some (.req 1 (.read 0x0010 2)), 0x0000) := by decide +kernel
theorem test_reqWrite : after (exec (.reqWrite 1 0x0003 1 3 0xD0BC) State.reset) (fun s => (s.dec, s.status)) =
    some (some (.req 1 (.write 0x0003 1 3)), 0x0000) := by decide +kernel

/-! ### Decoding responses (V11) -/

/-- r2. -/
theorem test_decodeRsp_match : after (exec (.decodeRsp s3) (awaiting 1 0x64 19)) (fun s => (s.pend, s.dec, s.status)) =
    some (none, some (.rsp 1 (.command cr0)), 0x00E0) := by decide +kernel
/-- r10. -/
theorem test_decodeRsp_address : after (exec (.decodeRsp s4) (awaiting 1 0x64 19)) (fun s => (s.pend, s.dec, s.status)) =
    some (none, none, 0x0028) := by decide +kernel
/-- r13, both settings of STRICT_VARIANT. -/
theorem test_rspManage : after (exec (.rspManage 1 0xFF00 625000 50 0xC1A4) (awaiting 1 0x64 19))
    (fun s => (s.pend, s.dec, s.status)) = some (none, some (.rsp 1 (.manage 0xFF00 625000 50)), 0x0060) := by
  decide +kernel
theorem test_rspManage_strict : after (exec (.rspManage 1 0xFF00 625000 50 0xC1A4) (strict (awaiting 1 0x64 19)))
    (fun s => (s.pend, s.dec, s.status)) = some (none, none, 0x0069) := by decide +kernel
/-- r23: error 0x8001. -/
theorem test_rspCommand : after (exec (.rspCommand 1 { cr0 with error := 0x8001 } 0xBC5B) (awaiting 1 0x64 19))
    (fun s => (s.dec, s.status)) = some (some (.rsp 1 (.command { cr0 with error := 0x8001 })), 0x00E0) := by decide +kernel
/-- r16: an unknown Mode. -/
theorem test_rspRead : after (exec (.rspRead 1 7 0x09 cr0 0xC94F) (awaiting 1 0x68 24)) (fun s => (s.dec, s.status)) =
    some (some (.rsp 1 (.read 7 .sleepMode cr0)), 0x01E0) := by decide +kernel
/-- r18 and r21: a known Mode; another variant with an unknown Mode. -/
theorem test_rspWrite : after (exec (.rspWrite 1 0x37 cr0 0xF5D8) (awaiting 1 0x69 20)) (fun s => (s.dec, s.status)) =
    some (some (.rsp 1 (.write .autoZeroingMode cr0)), 0x00E0) := by decide +kernel
theorem test_rspWrite_other : after (exec (.rspWrite 1 0xFF cr0 0x638F) (awaiting 1 0x68 24)) (fun s => (s.dec, s.status)) =
    some (some (.rsp 1 (.write .sleepMode cr0)), 0x0160) := by decide +kernel

/-! ### Length lookup, ABORT, illegal words (V12, V13) -/

theorem test_respLen : after (exec (.respLen (.command .sleepDataStream)) (awaiting 1 0x68 24)) (fun s => (s.len, s.status)) =
    some (19, 0x0010) := by decide
/-- c2. -/
theorem test_abort : nextOf (exec .abort (awaiting 1 0x41 12)) = some State.reset := by decide
/-- c8 and c9. -/
theorem test_illegal : after (step ((awaiting 1 0x64 19).issue (zeroOperands 0x0C))) (fun s => (s.pend, s.status)) =
    some (some ⟨1, 0x64, 19⟩, 0x001B) ∧
    after (step (State.reset.issue (zeroOperands 0x21))) (fun s => (s.crc, s.status)) = some (0xFFFF, 0x000B) := by decide

/-! ### Command text (30_encoding.md R90) and ErrorFlags -/

theorem test_text : commandText (.decodeReq [0x01, 0x64, 0x00]) = some "DECODE_REQ [01 64 00]" := by decide +kernel
theorem test_text_update : commandText (.crcUpdate 0x4B) = some "CRC_UPDATE 0x4B" := by decide +kernel

/-- The candidate layout of 93_implementation_defined.md I20, with the last flag at `k`. -/
def candidate (k : Fin 16) : ErrFlagPos := ⟨0, 5, 6, 7, 8, 9, 10, 11, k⟩
/-- I20: "It satisfies the constraints of 30_encoding.md rule R74, which would then put `auto_zero_failed` at bit 12, 14
or 15." -/
theorem test_errflag_candidate : ∀ k : Fin 16, (candidate k).valid = true ↔ k = 12 ∨ k = 14 ∨ k = 15 := by decide
/-- R77: the example `00 00` is all clear, and a set reserved bit is not. -/
theorem test_allClear : allClear 0x0000 = true ∧ allClear 0x8000 = false := by decide

/-! ### Witnesses: values that meet the hypotheses of each statement -/

theorem witness_CrcInitSetsInitialValue : (zeroOperands 0x01).cmd = 0x01 := rfl
theorem witness_CrcUpdateFoldsBytes : (zeroOperands 0x02).cmd = 0x02 := rfl
theorem witness_CrcOfLeavesCrc16 : ({ State.reset with port := crcOf [0x31] } : State).port = crcOf [0x31] ++ [] := by decide
/-- The last byte before the CRC bytes is the last one the clause covers. -/
theorem witness_Crc16Laws : (0x00 : Byte) ≠ 0x01 ∧ crcValid e4 = true ∧ 55 / 8 < e4.length - 2 ∧ ¬ 56 / 8 < e4.length - 2 := by
  decide +kernel
/-- The shortest CRC-valid sequence, and a frame. -/
theorem witness_ValidFramesHaveZeroResidue : crcValid [0xFF, 0xFF] = true ∧ crcValid s3 = true := by decide +kernel
theorem witness_GeneratorAgreesWithFrames : ({ State.reset with tx := e14 } : State).txLegal ∧
    ({ State.reset with tx := e14 } : State).tx ≠ [] := by unfold State.txLegal; decide +kernel
theorem witness_EncodeReqOpensContextOrReportsBusy : (zeroOperands 0x03).cmd = 0x03 ∧ State.reset.pend = none ∧
    (awaiting 1 0x41 12).pend = some ⟨1, 0x41, 12⟩ := by decide
theorem witness_EncodeRspWritesContractFrame : (zeroOperands 0x04).cmd = 0x04 ∧ reqFc (.read 0 0) = rspFc (.read 0 .sleepMode cr0) := by
  decide
/-- Both ends of the range of `i32`. -/
theorem witness_RequestFramesFollowTheirTables : (-2 ^ 31 : Int) ≤ -2 ^ 31 ∧ (-2 ^ 31 : Int) < 2 ^ 31 ∧
    (-2 ^ 31 : Int) ≤ 2 ^ 31 - 1 ∧ (2 ^ 31 - 1 : Int) < 2 ^ 31 := by decide
theorem witness_DecodeUndoesEncode : State.reset.pend = none ∧ (strict (awaiting 1 0x68 24)).pend = some ⟨1, 0x68, 24⟩ ∧
    (0x68 : Byte) = fcCode (rspFc (.read 7 .sleepMode cr0)) := by decide

/-- V10 d2 (6 bytes), d18, d19, d17, d11, d12 under Reject, d14; each at the edge of the check before it. -/
theorem witness_DecodeReqReportsFirstCause :
    (e4.take 6).length < 7 ∧
    (7 ≤ (e14.set 1 0x03).length ∧ byteAt (e14.set 1 0x03) 1 ∉ knownCodes) ∧
    (7 ≤ (e14.set 1 0x69).length ∧ byteAt (e14.set 1 0x69) 1 = fcCode .write ∧ (e14.set 1 0x69).length ≠ reqLen .write) ∧
    ((e4.set 2 0x0C).length = 9 ∧ byteAt (e4.set 2 0x0C) 1 = 0x64 ∧
      byteAt (e4.set 2 0x0C) 2 ∉ ([0x1C, 0x1E, 0x20, 0x22, 0x00] : List Byte)) ∧
    ((e1.set 3 0x01).length = 12 ∧ byteAt (e1.set 3 0x01) 1 = 0x41 ∧ be16 (e1.set 3 0x01) 2 ≠ 0xFF00 ∧
      be16 (e1.set 3 0x01) 2 ≠ 0x0000) ∧
    (d12.length = 9 ∧ byteAt d12 1 = 0x64 ∧ byteAt d12 2 ∈ ([0x20, 0x00] : List Byte) ∧
      (strict State.reset).cfg.reservedPolicy = .reject ∧ (d12.drop 3).take 4 ≠ [0, 0, 0, 0]) := by decide +kernel
/-- The last clause, for every shape of request, at a wrong CRC: the fields. -/
theorem witness_DecodeReqReportsFirstCause_fields :
    requestFieldsPass .reject (e1.set 10 0) ∧ requestFieldsPass .reject (e4.set 7 0) ∧
    requestFieldsPass .reject (e12.set 7 0) ∧ requestFieldsPass .ignore (d12.set 7 0) ∧
    requestFieldsPass .reject (e14.set 5 0) ∧ requestFieldsPass .reject (e16.set 9 0) := by
  unfold requestFieldsPass; refine ⟨?_, ?_, ?_, ?_, ?_, ?_⟩ <;> decide +kernel
/-- And the CRC. -/
theorem witness_DecodeReqReportsFirstCause_crc : crcValid (e1.set 10 0) = false ∧ crcValid (e4.set 7 0) = false ∧
    crcValid (e12.set 7 0) = false ∧ crcValid (d12.set 7 0) = false ∧ crcValid (e14.set 5 0) = false ∧
    crcValid (e16.set 9 0) = false := by decide +kernel

theorem witness_DecodeReqDeliversEveryVariant_word :
    ({ zeroOperands 0x05 with bytes := List.replicate 255 0 } : HostCommand).cmd = 0x05 ∧
    ({ zeroOperands 0x05 with bytes := List.replicate 255 0 } : HostCommand).bytes.length ≤ 255 := by decide +kernel
theorem witness_DecodeReqDeliversEveryVariant :
    (crcValid e1 = true ∧ e1.length = 12 ∧ byteAt e1 1 = 0x41 ∧ be16 e1 2 = 0xFF00) ∧
    (crcValid e2 = true ∧ e2.length = 12 ∧ byteAt e2 1 = 0x41 ∧ be16 e2 2 = 0x0000) ∧
    (crcValid e4 = true ∧ e4.length = 9 ∧ byteAt e4 1 = 0x64 ∧ byteAt e4 2 = 0x1C) ∧
    (crcValid e8 = true ∧ e8.length = 9 ∧ byteAt e8 1 = 0x64 ∧ byteAt e8 2 = 0x1E) ∧
    (crcValid d12b = true ∧ d12b.length = 9 ∧ byteAt d12b 1 = 0x64 ∧ byteAt d12b 2 = 0x20 ∧
      State.reset.cfg.reservedPolicy ≠ .reject) ∧
    (crcValid e11 = true ∧ e11.length = 9 ∧ byteAt e11 1 = 0x64 ∧ byteAt e11 2 = 0x22) ∧
    (crcValid e12 = true ∧ e12.length = 9 ∧ byteAt e12 1 = 0x64 ∧ byteAt e12 2 = 0x00 ∧
      (strict State.reset).cfg.reservedPolicy = .reject ∧ (e12.drop 3).take 4 = [0, 0, 0, 0]) ∧
    (crcValid e14 = true ∧ e14.length = 7 ∧ byteAt e14 1 = 0x68) ∧
    (crcValid e16 = true ∧ e16.length = 11 ∧ byteAt e16 1 = 0x69) := by decide +kernel

theorem witness_PlainRequestRowsDecode :
    (0x98D2 : U16) = crc16 ([0x01, 0x64, 0x1C] ++ putBe32 1000) ∧ (0 : U16) ≠ crc16 ([0x01, 0x64, 0x1C] ++ putBe32 1000) ∧
    (0xCEB7 : U16) = crc16 ([0x01, 0x64, 0x1E] ++ putBe32 12000) ∧ (0 : U16) ≠ crc16 ([0x01, 0x64, 0x1E] ++ putBe32 12000) ∧
    (0xD780 : U16) = crc16 ([0x01, 0x64, 0x22] ++ putBe32 0x12345678) ∧
    (0 : U16) ≠ crc16 ([0x01, 0x64, 0x22] ++ putBe32 0x12345678) ∧
    (0xA189 : U16) = crc16 ([0x01, 0x68] ++ putBe16 0x0010 ++ [2]) ∧ (0 : U16) ≠ crc16 ([0x01, 0x68] ++ putBe16 0x0010 ++ [2]) ∧
    (0xD0BC : U16) = crc16 ([0x01, 0x69] ++ putBe16 0x0003 ++ [1] ++ putBe32 3) ∧
    (0 : U16) ≠ crc16 ([0x01, 0x69] ++ putBe16 0x0003 ++ [1] ++ putBe32 3) := by decide +kernel
theorem witness_ManageRequestRowDecodes :
    (0xC1A4 : U16) = crc16 ([0x01, 0x41] ++ putBe16 0xFF00 ++ putBe32 625000 ++ putBe16 50) ∧
    (0 : U16) ≠ crc16 ([0x01, 0x41] ++ putBe16 0xFF00 ++ putBe32 625000 ++ putBe16 50) ∧
    (0x911D : U16) = crc16 ([0x01, 0x41] ++ putBe16 0x0000 ++ putBe32 0 ++ putBe16 0) ∧
    (0xFF01 : U16) ≠ 0xFF00 ∧ (0xFF01 : U16) ≠ 0x0000 := by decide +kernel
theorem witness_ReservedRowsFollowPolicy :
    (0x37B2 : U16) = crc16 ([0x01, 0x64, 0x20] ++ putBe32 0xFF000000) ∧ State.reset.cfg.reservedPolicy = .ignore ∧
    (0x24C2 : U16) = crc16 ([0x01, 0x64, 0x00] ++ putBe32 1) ∧ (0 : U16) ≠ crc16 ([0x01, 0x64, 0x00] ++ putBe32 1) ∧
    (0 : U16) ≠ crc16 ([0x01, 0x64, 0x20] ++ putBe32 0) ∧
    (strict State.reset).cfg.reservedPolicy = .reject ∧ (1 : U32) ≠ 0 := by decide +kernel

/-- V11 r4 (11 bytes), r6 (12 bytes), r7a, r8, r10, r20. -/
theorem witness_DecodeRspReportsFirstCause :
    (s3.take 11).length < 12 ∧
    (12 ≤ (e1.set 1 0xE4).length ∧ byteAt (e1.set 1 0xE4) 1 ∉ knownCodes) ∧
    (12 ≤ (s3.take 18).length ∧ byteAt (s3.take 18) 1 = fcCode .command ∧ (s3.take 18).length ≠ rspLen .command) ∧
    (responseFieldsPass (s3.set 18 0x8D) ∧ crcValid (s3.set 18 0x8D) = false) ∧
    (responseFieldsPass s4 ∧ crcValid s4 = true ∧ (awaiting 1 0x64 19).pend = some ⟨1, 0x64, 19⟩ ∧ byteAt s4 0 ≠ 1) ∧
    (responseFieldsPass s9 ∧ crcValid s9 = true ∧ (awaiting 1 0x68 24).pend = some ⟨1, 0x68, 24⟩ ∧ byteAt s9 0 = 1 ∧
      byteAt s9 1 ≠ 0x68 ∧ (strict (awaiting 1 0x68 24)).cfg.strictVariant = true) := by
  unfold responseFieldsPass; decide +kernel
theorem witness_DecodeRspDeliversEveryVariant :
    (crcValid e1 = true ∧ e1.length = 12 ∧ byteAt e1 1 = 0x41) ∧
    (crcValid s3 = true ∧ s3.length = 19 ∧ byteAt s3 1 = 0x64) ∧
    (crcValid s7 = true ∧ s7.length = 24 ∧ byteAt s7 1 = 0x68 ∧ byteAt s7 6 = modeCode .positionMode) ∧
    (crcValid r16 = true ∧ r16.length = 24 ∧ byteAt r16 1 = 0x68 ∧ byteAt r16 6 ∉ knownModes) ∧
    (crcValid s10 = true ∧ s10.length = 20 ∧ byteAt s10 1 = 0x69 ∧ byteAt s10 2 = modeCode .autoZeroingMode) ∧
    (crcValid r19 = true ∧ r19.length = 20 ∧ byteAt r19 1 = 0x69 ∧ byteAt r19 2 ∉ knownModes) := by decide +kernel
/-- Of `ResponseDelivered`: no context, and a context of the frame's own address and code. -/
theorem witness_ResponseDelivered : State.reset.pend = none ∧ (awaiting 1 0x68 24).pend = some ⟨1, 0x68, 24⟩ := by decide
theorem witness_ResponseRowsDecode :
    (0xC1A4 : U16) = crc16 ([0x01, 0x41] ++ putBe16 0xFF00 ++ putBe32 625000 ++ putBe16 50) ∧
    (0x8C5B : U16) = crc16 ([0x01, 0x64] ++ encBody cr0) ∧ (0 : U16) ≠ crc16 ([0x01, 0x64] ++ encBody cr0) ∧
    (0x4F75 : U16) = crc16 ([0x01, 0x68] ++ putBe32 0xDEADBEEF ++ [3] ++ encBody cr0) ∧ (3 : Byte) = modeCode .positionMode ∧
    (0xC94F : U16) = crc16 ([0x01, 0x68] ++ putBe32 7 ++ [0x09] ++ encBody cr0) ∧ (0x09 : Byte) ∉ knownModes ∧
    (0xF5D8 : U16) = crc16 ([0x01, 0x69, 0x37] ++ encBody cr0) ∧ (0x37 : Byte) = modeCode .autoZeroingMode ∧
    (0x638F : U16) = crc16 ([0x01, 0x69, 0xFF] ++ encBody cr0) ∧ (0xFF : Byte) ∉ knownModes := by decide +kernel
/-- V11 r13 under both settings, and a Write response's code at a Read response's length. -/
theorem witness_OtherVariantFollowsStrictVariant :
    ((awaiting 1 0x64 19).pend = some ⟨1, 0x64, 19⟩ ∧ byteAt e1 1 ≠ 0x64 ∧ byteAt e1 1 = fcCode .manage ∧
      e1.length = rspLen .manage ∧ crcValid e1 = true ∧ byteAt e1 0 = 1) ∧
    (awaiting 1 0x64 19).cfg.strictVariant = false ∧ (strict (awaiting 1 0x64 19)).cfg.strictVariant = true ∧
    ((Pending.mk 1 0x68 24).fc = fcCode .read ∧ (Pending.mk 1 0x68 24).expLen = BitVec.ofNat 8 (rspLen .read) ∧
      byteAt (s7.set 1 0x69) 1 ≠ 0x68 ∧ byteAt (s7.set 1 0x69) 1 = fcCode .write ∧
      (s7.set 1 0x69).length = (Pending.mk 1 0x68 24).expLen.toNat) := by decide +kernel
theorem witness_OtherVariantAtExpectedLengthFails :
    (Pending.mk 1 0x68 24).legal ∧ (s7.set 1 0x69).length = (Pending.mk 1 0x68 24).expLen.toNat ∧
    byteAt (s7.set 1 0x69) 1 ≠ 0x68 ∧ byteAt (s7.set 1 0x69) 1 ∈ knownCodes ∧
    byteAt (s7.set 1 0xE8) 1 ≠ 0x68 ∧ byteAt (s7.set 1 0xE8) 1 ∉ knownCodes :=
  ⟨⟨.read, by decide, by decide⟩, by decide, by decide, by decide, by decide, by decide⟩
/-- The neighbours of known codes and both ends; no context, and a context of another code under STRICT_VARIANT false. -/
theorem witness_UnknownModeIsNoFailure : (0x00 : Byte) ∉ knownModes ∧ (0x06 : Byte) ∉ knownModes ∧ (0x0A : Byte) ∉ knownModes ∧
    (0x0C : Byte) ∉ knownModes ∧ (0x36 : Byte) ∉ knownModes ∧ (0x38 : Byte) ∉ knownModes ∧ (0xFF : Byte) ∉ knownModes ∧
    State.reset.pend = none ∧ (awaiting 1 0x41 12).pend = some ⟨1, 0x41, 12⟩ ∧ (awaiting 1 0x41 12).cfg.strictVariant ≠ true :=
  by decide
/-- A flip in the last bit of a frame, in its function code, in a reserved byte under Reject, in a sub-code that stays
known (V10 d16); and in a response. -/
theorem witness_SingleBitFlipIsRejected :
    (decReq .ignore e4).toOption.isSome = true ∧ 71 < 8 * e4.length ∧ e4.length - 2 ≤ 71 / 8 ∧ 8 / 8 = 1 ∧ 15 / 8 = 1 ∧
    requestFieldsPass .ignore (flipBit e4 17) ∧
    ((decReq .reject e12).toOption.isSome = true ∧ byteAt e12 1 = 0x64 ∧ byteAt e12 2 ∈ ([0x20, 0x00] : List Byte) ∧
      3 ≤ 24 / 8 ∧ 55 / 8 < 7) ∧
    (decRsp s3).toOption.isSome = true ∧ 151 < 8 * s3.length ∧ responseFieldsPass (flipBit s3 151) := by
  unfold requestFieldsPass responseFieldsPass; decide +kernel

theorem witness_RespLenLooksUpLength : (zeroOperands 0x07).cmd = 0x07 ∧ State.reset.pend = none := by decide
theorem witness_AbortEndsPendingRequest : (zeroOperands 0x08).cmd = 0x08 := rfl
/-- The words at the edges of R174's two conditions. -/
theorem witness_IllegalWordsChangeOnlyStatus : illegalWord 0x00 ∧ illegalWord 0x09 ∧ illegalWord 0x0F ∧ illegalWord 0x10 ∧
    illegalWord 0x18 ∧ illegalWord 0xFF ∧ ¬ illegalWord 0x01 ∧ ¬ illegalWord 0x08 ∧
    (State.reset.issue (zeroOperands 0x09)).port = .command (zeroOperands 0x09) :: [] := by unfold illegalWord; decide
theorem witness_OpcodeMapIsTotal : (List.replicate 255 (0 : Byte)).length ≤ 255 ∧ 0x09 ≤ (0x09 : Byte).toNat := by decide +kernel
/-- Both sides of the bound; the step is refused, and one byte less is not. -/
theorem witness_OverlongOperandIsRefused :
    (State.reset.issue { zeroOperands 0x06 with bytes := List.replicate 256 0 }).port =
      .command { zeroOperands 0x06 with bytes := List.replicate 256 0 } :: [] ∧
    255 < (List.replicate 256 (0 : Byte)).length ∧ ¬ 255 < (List.replicate 255 (0 : Byte)).length ∧
    nextOf (step (State.reset.issue { zeroOperands 0x06 with bytes := List.replicate 256 0 })) = none ∧
    (nextOf (step (State.reset.issue { zeroOperands 0x06 with bytes := List.replicate 255 0 }))).isSome = true := by
  decide +kernel
theorem witness_StepRunsTheDecodedCommand : (State.reset.issue (zeroOperands 0x01)).port = .command (zeroOperands 0x01) :: [] ∧
    decodeCommand (zeroOperands 0x01) = .ok .crcInit := by decide
theorem witness_IdleAndResetSteps : State.reset.port = [] ∧
    ({ awaiting 1 0x41 12 with port := [.reset] } : State).port = .reset :: [] := by decide
theorem witness_TableWordsAreFetchedAndRun : decodeTableWord 16 0x6420 = some (.reqCmdKinematic 0 0 0) := by decide
theorem witness_DecodeCommandsRunTheirFramesRow : (decodeRequestFrame e14).toOption.isSome = true ∧
    (decodeResponseFrame s7).toOption.isSome = true := by decide
theorem witness_DecodeOfEncodeIsIdentity : (Instr.decodeReq (List.replicate 255 0xFF)).wellFormed = true ∧
    (Instr.reqCmdForce 0xFF 0x80000000 0xFFFF).wellFormed = true := by decide +kernel
theorem witness_EncodeOfDecodedFrameIsIdentity : (decodeRequestFrame d12).toOption.isSome = true ∧
    (decodeResponseFrame r16).toOption.isSome = true := by decide

/-- `State.reset` meets the invariant, and so does it with a command issued; that step has a next state. -/
theorem witness_EveryStepKeepsTheInvariant : (State.reset.issue (zeroOperands 0x08)).Inv ∧
    (nextOf (step (State.reset.issue (zeroOperands 0x08)))).isSome = true := by
  refine ⟨⟨.inl rfl, fun p h => (by cases h), by unfold State.lenLegal; decide, ?_⟩, by decide⟩
  constructor <;> first | decide | exact fun h => absurd h (by decide)
theorem witness_EveryInstructionCompletes : (nextOf (runCommand (zeroOperands 0x01) State.reset)).isSome = true := by decide
theorem witness_ResponseFlagsFollowTheirRules : Instr.abort.decodesResponse = false ∧
    (nextOf (exec .abort State.reset)).isSome = true ∧ illegalWord 0x09 ∧
    (nextOf (runCommand (zeroOperands 0x09) State.reset)).isSome = true ∧
    (nextOf (exec (.decodeRsp []) State.reset)).isSome = true := by unfold illegalWord; decide
/-- For each register an instruction that changes it. -/
theorem witness_OnlyTheNamedCommandsWrite : after (exec (.crcUpdate 0) State.reset) (·.crc) ≠ some State.reset.crc ∧
    after (exec .abort (awaiting 1 0x41 12)) (·.pend) ≠ some (awaiting 1 0x41 12).pend ∧
    after (exec (.encodeRsp 1 (.command cr0)) State.reset) (·.tx) ≠ some State.reset.tx ∧
    after (exec (.decodeReq e14) State.reset) (·.dec) ≠ some State.reset.dec ∧
    after (exec (.respLen (.read 0 0)) State.reset) (·.len) ≠ some State.reset.len := by decide +kernel
/-- Two states that differ in every register the rule does not name. -/
theorem witness_ResultsDependOnCrcAndPendAlone :
    let s : State := { State.reset with tx := e4, dec := some (.req 1 (.read 0 0)), len := 19, status := 0x00E0 }
    s.crc = State.reset.crc ∧ s.pend = State.reset.pend ∧ s.cfg = State.reset.cfg ∧ s ≠ State.reset := by decide
theorem witness_FailuresArePrecise : after (exec (.decodeRsp []) (awaiting 1 0x64 19)) (fun s => statusResult s.status) =
    some 1 := by decide
theorem witness_PendingRequestStaysUntilEnded : (awaiting 1 0x64 19).pend = some ⟨1, 0x64, 19⟩ ∧
    (nextOf (exec (.encodeReq 2 (.read 0 0)) (awaiting 1 0x64 19))).isSome = true := by decide +kernel
theorem witness_RoundtripDeliversTheReply :
    let s : State := { State.reset with port := hsRoundtrip 1 (.read 0x10 2) (frame 1 (encRsp (.read 7 .sleepMode cr0))) }
    s.pend = none ∧ rspFc (.read 7 .sleepMode cr0) = reqFc (.read 0x10 2) ∧
    s.port = hsRoundtrip 1 (.read 0x10 2) (frame 1 (encRsp (.read 7 .sleepMode cr0))) ++ [] := by decide +kernel
/-- Bits 0, 7, 8 and 15. -/
theorem witness_ErrorFlagsPassThroughBitForBit : 0 < 16 ∧ 7 < 16 ∧ 8 < 16 ∧ 15 < 16 := by decide
/-- Nine adjacent flags at either end; no position is the model's. -/
theorem witness_SevenErrorBitsAreReserved : (ErrFlagPos.mk 0 1 2 3 4 5 6 7 8).valid = true ∧
    (ErrFlagPos.mk 7 8 9 10 11 12 13 14 15).valid = true := by decide
/-- Two instances, both with a command issued. -/
theorem witness_InstancesShareNothing :
    ∃ b₀ b₁, bankStep 0 [State.reset.issue (zeroOperands 0x08), (awaiting 1 0x64 19).issue (zeroOperands 0x09)] = .next b₀ ∧
      bankStep 1 [State.reset.issue (zeroOperands 0x08), (awaiting 1 0x64 19).issue (zeroOperands 0x09)] = .next b₁ ∧
      b₀ ≠ b₁ :=
  ⟨[State.reset, (awaiting 1 0x64 19).issue (zeroOperands 0x09)],
   [State.reset.issue (zeroOperands 0x08), { awaiting 1 0x64 19 with status := 0x001B }], rfl, rfl, by decide⟩

end Sys2Proof.Tests
end

section
/-! The rules about one command, said once: what each instruction's meaning is in terms of the shared operations, what
it leaves in STATUS, and what a host command does. -/

namespace Sys2Proof.Machine

/-! ### The meaning of each instruction -/

@[simp] theorem exec_crcInit (s : State) : exec .crcInit s = .next ({ s with crc := 0xFFFF }.finish .ok) := rfl
@[simp] theorem exec_crcUpdate (b : Byte) (s : State) :
    exec (.crcUpdate b) s = .next ({ s with crc := crc16Step s.crc b }.finish .ok) := rfl
@[simp] theorem exec_encodeReq (a : Byte) (req : RequestPDU) (s : State) :
    exec (.encodeReq a req) s = .next (s.encodeRequest a req) := rfl
@[simp] theorem exec_encodeRsp (a : Byte) (rsp : ResponsePDU) (s : State) :
    exec (.encodeRsp a rsp) s = .next ({ s with tx := frame a (encRsp rsp) }.finish .ok) := rfl
@[simp] theorem exec_decodeReq (B : Bytes) (s : State) : exec (.decodeReq B) s = .next (s.decodeRequest B) := rfl
@[simp] theorem exec_decodeRsp (B : Bytes) (s : State) : exec (.decodeRsp B) s = .next (s.decodeResponse B) := rfl
@[simp] theorem exec_respLen (req : RequestPDU) (s : State) :
    exec (.respLen req) s = .next ({ s with len := BitVec.ofNat 8 (expectedResponseLen req) }.finish .ok) := rfl
@[simp] theorem exec_abort (s : State) : exec .abort s = .next ({ s with pend := none }.finish .ok) := rfl

/-- DECODE_RSP and the response rows run the response decode of some frame. -/
theorem exec_of_decodesResponse {i : Instr} (hi : i.decodesResponse = true) :
    ∃ B, ∀ s, exec i s = .next (s.decodeResponse B) := by
  cases i with
  | decodeRsp | rspManage | rspCommand | rspRead | rspWrite => exact ⟨_, fun _ => rfl⟩
  | crcInit | crcUpdate | encodeReq | encodeRsp | decodeReq | respLen | abort | reqManage | reqCmdForce
  | reqCmdPosition | reqCmdKinematic | reqCmdHaptic | reqCmdSleep | reqRead | reqWrite => cases hi

/-- DECODE_REQ and the request rows run the request decode of some frame. -/
theorem exec_of_decodesRequest {i : Instr} (hi : i.decodesRequest = true) :
    ∃ B, ∀ s, exec i s = .next (s.decodeRequest B) := by
  cases i with
  | decodeReq | reqManage | reqCmdForce | reqCmdPosition | reqCmdKinematic | reqCmdHaptic | reqCmdSleep | reqRead
  | reqWrite => exact ⟨_, fun _ => rfl⟩
  | crcInit | crcUpdate | encodeReq | encodeRsp | decodeRsp | respLen | abort | rspManage | rspCommand | rspRead
  | rspWrite => cases hi

/-- An instruction decodes a response, decodes a request, or is one of the six commands that decode nothing. -/
theorem instr_kinds (i : Instr) :
    i.decodesResponse = true ∨ i.decodesRequest = true ∨ i = .crcInit ∨ (∃ b, i = .crcUpdate b) ∨
    (∃ a req, i = .encodeReq a req) ∨ (∃ a rsp, i = .encodeRsp a rsp) ∨ (∃ req, i = .respLen req) ∨ i = .abort := by
  cases i with
  | decodeRsp | rspManage | rspCommand | rspRead | rspWrite => exact .inl rfl
  | decodeReq | reqManage | reqCmdForce | reqCmdPosition | reqCmdKinematic | reqCmdHaptic | reqCmdSleep | reqRead
  | reqWrite => exact .inr (.inl rfl)
  | crcInit | crcUpdate | encodeReq | encodeRsp | respLen | abort => simp

/-! ### What a command leaves in STATUS -/

/-- STATUS is as the final step of a command writes it (10_state.md R35): some result and some flags, with PENDING the
mirror of `PEND`. -/
def State.Reported (s : State) : Prop := ∃ r f, s.status = packStatus r s.pend.isSome f

/-- STATUS is as a command leaves it that sets no flag of DECODE_RSP. -/
def State.ReportedPlain (s : State) : Prop := ∃ r, s.status = plainStatus r s.pend

theorem State.report_reported (s : State) (r : ResultCode) (f : RspFlags) : (s.report r f).Reported := ⟨r, f, rfl⟩

theorem State.rejectResponse_reported (s : State) (r : ResultCode) (f : RspFlags) : (s.rejectResponse r f).Reported :=
  ⟨r, f, rfl⟩

@[simp] theorem State.finish_reportedPlain (s : State) (r : ResultCode) : (s.finish r).ReportedPlain := ⟨r, rfl⟩

theorem State.ReportedPlain.reported {s : State} (h : s.ReportedPlain) : s.Reported := by
  obtain ⟨r, h⟩ := h
  exact ⟨r, .clear, h⟩

/-- R28, R29, R34 hold of whatever the final step of a command writes. -/
theorem State.Reported.wellFormed {s : State} (h : s.Reported) :
    statusPending s.status = s.pend.isSome ∧ (statusResult s.status).toNat ≤ 11 ∧ statusReserved s.status = 0 := by
  obtain ⟨r, f, h⟩ := h
  simp [h, ResultCode.code_le]

/-- R30 to R33 for a command that is no response decode. -/
theorem State.ReportedPlain.flags_clear {s : State} (h : s.ReportedPlain) :
    statusCtx s.status = false ∧ statusAddrMatch s.status = false ∧ statusVariantMatch s.status = false ∧
      statusModeDefaulted s.status = false := by
  obtain ⟨r, h⟩ := h
  simp [h, plainStatus, RspFlags.clear]

/-- ENCODE_REQ ends with a plain STATUS and leaves the model's own fields alone, in either branch of R130. -/
theorem encodeRequest_reportedPlain (s : State) (a : Byte) (req : RequestPDU) :
    (s.encodeRequest a req).ReportedPlain ∧ (s.encodeRequest a req).cfg = s.cfg ∧
      (s.encodeRequest a req).port = s.port := by
  cases hp : s.pend with
  | none => simp [encodeRequest_idle hp]
  | some p => simp [encodeRequest_busy hp]

/-- DECODE_REQ ends with a plain STATUS. -/
theorem decodeRequest_reportedPlain (s : State) (B : Bytes) : (s.decodeRequest B).ReportedPlain := by
  rcases decodeRequest_cases s B with ⟨c, -, h⟩ | ⟨adu, -, h⟩ <;> simp [h]

/-- DECODE_RSP ends with the report of a result, whatever the frame and the context. -/
theorem decodeResponse_reported (s : State) (B : Bytes) : (s.decodeResponse B).Reported := by
  rcases decodeResponse_cases s B with ⟨c, -, h⟩ | ⟨adu, d, -, -, h⟩ | ⟨adu, d, p, -, -, h⟩
  · exact h ▸ State.rejectResponse_reported ..
  · exact h ▸ State.report_reported ..
  · rcases checkContext_cases { s with pend := none } p (byteAt B 1 == p.fc) adu d with
      ⟨-, h'⟩ | ⟨-, -, -, h'⟩ | ⟨-, -, h'⟩
    · exact (h.trans h') ▸ State.rejectResponse_reported ..
    · exact (h.trans h') ▸ State.rejectResponse_reported ..
    · exact (h.trans h') ▸ State.report_reported ..

/-- An instruction that decodes no response completes, sets no flag of DECODE_RSP, and leaves the parameters and the
port alone. -/
theorem exec_reportedPlain {i : Instr} (hi : i.decodesResponse = false) (s : State) :
    ∃ t, exec i s = .next t ∧ t.ReportedPlain ∧ t.cfg = s.cfg ∧ t.port = s.port := by
  rcases instr_kinds i with h | h | rfl | ⟨b, rfl⟩ | ⟨a, req, rfl⟩ | ⟨a, rsp, rfl⟩ | ⟨req, rfl⟩ | rfl
  · rw [hi] at h; cases h
  · obtain ⟨B, h⟩ := exec_of_decodesRequest h
    obtain ⟨-, -, -, hcfg, hport, -⟩ := decodeRequest_frame s B
    exact ⟨_, h s, decodeRequest_reportedPlain s B, hcfg, hport⟩
  all_goals simp [encodeRequest_reportedPlain]

/-- Every instruction completes with the report of a result, and leaves the parameters and the port alone. -/
theorem exec_reported (i : Instr) (s : State) :
    ∃ t, exec i s = .next t ∧ t.Reported ∧ t.cfg = s.cfg ∧ t.port = s.port := by
  cases hi : i.decodesResponse with
  | false =>
    obtain ⟨t, ht, hr, hcfg, hport⟩ := exec_reportedPlain hi s
    exact ⟨t, ht, hr.reported, hcfg, hport⟩
  | true =>
    obtain ⟨B, h⟩ := exec_of_decodesResponse hi
    obtain ⟨-, -, -, hcfg, hport, -⟩ := decodeResponse_frame s B
    exact ⟨_, h s, decodeResponse_reported s B, hcfg, hport⟩

/-! ### What an instruction does to a pending request -/

/-- An instruction other than ABORT that decodes no response keeps a pending request's context (R23). -/
theorem exec_keeps_pending {i : Instr} {s t : State} {p : Pending} (hp : s.pend = some p)
    (hi : i.decodesResponse = false) (ha : i ≠ .abort) (h : exec i s = .next t) : t.pend = some p := by
  rcases instr_kinds i with hk | hk | rfl | ⟨b, rfl⟩ | ⟨a, req, rfl⟩ | ⟨a, rsp, rfl⟩ | ⟨req, rfl⟩ | rfl
  · rw [hi] at hk; cases hk
  · obtain ⟨B, hB⟩ := exec_of_decodesRequest hk
    rw [hB] at h; cases h
    simp [decodeRequest_frame, hp]
  · cases h; exact hp
  · cases h; exact hp
  · rw [exec_encodeReq, encodeRequest_busy hp] at h; cases h
    exact hp
  · cases h; exact hp
  · cases h; exact hp
  · exact absurd rfl ha

/-- ABORT and the response decodes leave no context (R23, R213). -/
theorem exec_ends_pending {i : Instr} {s t : State} (hi : i = .abort ∨ i.decodesResponse = true)
    (h : exec i s = .next t) : t.pend = none := by
  rcases hi with rfl | hi
  · cases h; rfl
  · obtain ⟨B, hB⟩ := exec_of_decodesResponse hi
    rw [hB] at h; cases h
    simp [decodeResponse_frame]

/-! ### Host commands -/

/-- A host command that completes is the instruction it decodes to, or an illegal word with R174's effect. -/
theorem runCommand_cases {c : HostCommand} {s t : State} (h : runCommand c s = .next t) :
    (∃ i, decodeCommand c = .ok i ∧ exec i s = .next t) ∨
    (decodeCommand c = .error .illegalCommand ∧ t = s.illegalCommand) := by
  unfold runCommand at h
  split at h
  next i hi => exact .inl ⟨i, hi, h⟩
  next hc => cases h; exact .inr ⟨hc, rfl⟩
  next => cases h

/-- The words R174 calls illegal are those the opcode map of R62 rejects. -/
theorem decodeCommand_illegalWord {c : HostCommand} (h : illegalWord c.cmd) :
    decodeCommand c = .error .illegalCommand := by
  unfold decodeCommand
  by_cases hr : cmdReserved c.cmd = 0
  · have ho : cmdOpc c.cmd ∈ ([0x0, 0x9, 0xA, 0xB, 0xC, 0xD, 0xE, 0xF] : List (BitVec 4)) := h.resolve_left (· hr)
    simp only [List.mem_cons, List.not_mem_nil, or_false] at ho
    rcases ho with ho | ho | ho | ho | ho | ho | ho | ho <;> simp [hr, ho]
  · exact if_pos hr

/-- An illegal command word reports ILLEGAL_COMMAND and nothing else (43_control.md R174). -/
theorem runCommand_illegalWord {c : HostCommand} (h : illegalWord c.cmd) (s : State) :
    runCommand c s = .next s.illegalCommand := by
  simp [runCommand, decodeCommand_illegalWord h]

theorem State.illegalCommand_reportedPlain (s : State) : s.illegalCommand.ReportedPlain :=
  s.finish_reportedPlain .illegalCommand

/-- Every host command that completes ends with the report of a result. -/
theorem runCommand_reported {c : HostCommand} {s t : State} (h : runCommand c s = .next t) : t.Reported := by
  rcases runCommand_cases h with ⟨i, -, hi⟩ | ⟨-, rfl⟩
  · obtain ⟨t', ht', hr, -⟩ := exec_reported i s
    rw [ht'] at hi; cases hi
    exact hr
  · exact s.illegalCommand_reportedPlain.reported

end Sys2Proof.Machine
end

section
/-! The response decoder against the tables of 30_encoding.md, and the flags DECODE_RSP leaves for each way it ends
(10_state.md R30 to R33). -/

namespace Sys2Proof.Machine

/-- The frames R141's structural checks let through are those whose function code is known and fixes their length. -/
theorem responseFieldsPass_iff {B : Bytes} :
    responseFieldsPass B ↔ ∃ fc, fcOf (byteAt B 1) = some fc ∧ B.length = rspLen fc := by
  constructor
  · rintro (⟨hl, hb⟩ | ⟨hl, hb⟩ | ⟨hl, hb⟩ | ⟨hl, hb⟩)
    · exact ⟨.manage, fcOf_eq_some.2 hb, hl⟩
    · exact ⟨.command, fcOf_eq_some.2 hb, hl⟩
    · exact ⟨.read, fcOf_eq_some.2 hb, hl⟩
    · exact ⟨.write, fcOf_eq_some.2 hb, hl⟩
  · rintro ⟨fc, hfc, hl⟩
    have hb := fcOf_eq_some.1 hfc
    cases fc with
    | manage => exact .inl ⟨hl, hb⟩
    | command => exact .inr (.inl ⟨hl, hb⟩)
    | read => exact .inr (.inr (.inl ⟨hl, hb⟩))
    | write => exact .inr (.inr (.inr ⟨hl, hb⟩))

/-- A frame long enough to have a CRC field is CRC-valid when that field is right (40_crc.md R102). -/
theorem crcValid_iff {B : Bytes} (h : 2 ≤ B.length) : crcValid B = true ↔ crcField B = crc16 (crcCovered B) := by
  simp [crcValid, h]

/-- `dec_rsp` accepts exactly the frames that pass the structural checks and the CRC check (R141, R164). -/
theorem decRsp_accepts_iff {B : Bytes} : (∃ r, decRsp B = .ok r) ↔ responseFieldsPass B ∧ crcValid B = true := by
  rw [responseFieldsPass_iff]
  have two_le {fc} (hl : B.length = rspLen fc) : 2 ≤ B.length := hl ▸ le_trans (by decide) (minRsp_le fc)
  constructor
  · rintro ⟨r, hr⟩
    obtain ⟨fc, hfc, hl, hc, -⟩ := decRsp_ok.1 hr
    exact ⟨⟨fc, hfc, hl⟩, (crcValid_iff (two_le hl)).2 hc⟩
  · rintro ⟨⟨fc, hfc, hl⟩, hc⟩
    exact ⟨_, decRsp_ok.2 ⟨fc, hfc, hl, (crcValid_iff (two_le hl)).1 hc, rfl⟩⟩

/-- A frame `dec_rsp` rejects fails a structural check or the CRC check. -/
theorem not_pass_of_decRsp_error {B : Bytes} {c : ResultCode} (h : decRsp B = .error c) :
    ¬ (responseFieldsPass B ∧ crcValid B = true) := by
  rw [← decRsp_accepts_iff, h]
  simp

/-- The structural checks never reject a frame with OK. -/
theorem frameFc_error_ne_ok {min : Nat} {len : FunctionCode → Nat} {B : Bytes} {c : ResultCode}
    (h : frameFc min len B = .error c) : c ≠ .ok := by
  rintro rfl
  unfold frameFc at h
  split at h
  · cases h
  · split at h
    · cases h
    · split at h <;> cases h

/-- `dec_rsp` never rejects a frame with OK. -/
theorem decRsp_error_ne_ok {B : Bytes} {c : ResultCode} (h : decRsp B = .error c) : c ≠ .ok := by
  unfold decRsp afterCrc at h
  split at h
  next c' hc' => cases h; exact frameFc_error_ne_ok hc'
  next =>
    split at h
    · cases h; decide
    · cases h

/-- The Mode bytes that are replaced are those R78 does not list (R79). -/
theorem modeOf_defaulted_iff {m : Byte} : (modeOf m).2 = true ↔ m ∉ knownModes := by
  revert m; decide

/-- The frame's Mode byte stands in a Read or Write response and is none of R78's codes. -/
def unknownModeByte (B : Bytes) : Prop :=
  (byteAt B 1 = 0x68 ∧ byteAt B 6 ∉ knownModes) ∨ (byteAt B 1 = 0x69 ∧ byteAt B 2 ∉ knownModes)

/-- `defaulted` of `parse_rsp` (R160 to R163) tells of an unknown Mode byte. -/
theorem parseRsp_defaulted_iff {fc : FunctionCode} {B : Bytes} (h : byteAt B 1 = fcCode fc) :
    (parseRsp fc B).2 = true ↔ unknownModeByte B := by
  cases fc <;> simp [parseRsp, unknownModeByte, h, fcCode, modeOf_defaulted_iff]

/-- What `dec_rsp` delivers: the frame's address, and `defaulted` for an unknown Mode byte. -/
theorem decRsp_delivers {B : Bytes} {adu : DecodedADU} {d : Bool} (h : decRsp B = .ok (adu, d)) :
    aduAddr adu = byteAt B 0 ∧ (d = true ↔ unknownModeByte B) := by
  obtain ⟨fc, hfc, -, -, hr⟩ := decRsp_ok.1 h
  cases hr
  exact ⟨rfl, parseRsp_defaulted_iff (fcOf_eq_some.1 hfc)⟩

/-- Every way DECODE_RSP ends (R167), by what `dec_rsp` answers, the context, and the two checks against it (R165,
R166); with the STATUS it leaves. -/
theorem decodeResponse_status_cases (s : State) (B : Bytes) :
    (∃ c, decRsp B = .error c ∧ (s.decodeResponse B).status = packStatus c false ⟨s.pend.isSome, false, false, false⟩) ∨
    (∃ adu d, decRsp B = .ok (adu, d) ∧
      ((s.pend = none ∧ (s.decodeResponse B).status = packStatus .ok false ⟨false, false, false, d⟩) ∨
      ∃ p, s.pend = some p ∧
        ((byteAt B 0 ≠ p.addr ∧
          (s.decodeResponse B).status = packStatus .addressMismatch false ⟨true, false, false, false⟩) ∨
        (byteAt B 0 = p.addr ∧ byteAt B 1 ≠ p.fc ∧
          (s.decodeResponse B).status = packStatus .unexpectedVariant false ⟨true, true, false, false⟩) ∨
        (byteAt B 0 = p.addr ∧
          (s.decodeResponse B).status = packStatus .ok false ⟨true, true, byteAt B 1 == p.fc, d⟩)))) := by
  rcases decodeResponse_cases s B with ⟨c, hd, h⟩ | ⟨adu, d, hd, hp, h⟩ | ⟨adu, d, p, hd, hp, h⟩
  · exact .inl ⟨c, hd, by simp [h]⟩
  · exact .inr ⟨adu, d, hd, .inl ⟨hp, by simp [h]⟩⟩
  · refine .inr ⟨adu, d, hd, .inr ⟨p, hp, ?_⟩⟩
    rw [h, ← (decRsp_delivers hd).1]
    rcases checkContext_cases { s with pend := none } p (byteAt B 1 == p.fc) adu d with
      ⟨ha, h'⟩ | ⟨ha, hv, -, h'⟩ | ⟨ha, -, h'⟩
    · exact .inl ⟨ha, by simp [h']⟩
    · exact .inr (.inl ⟨ha, by simpa using hv, by simp [h']⟩)
    · exact .inr (.inr ⟨ha, by simp [h']⟩)

/-- R30 to R33 for the response decode of a frame, in every state. -/
theorem decodeResponse_flags (s : State) (B : Bytes) :
    statusCtx (s.decodeResponse B).status = s.pend.isSome ∧
    (statusAddrMatch (s.decodeResponse B).status = true ↔
      (responseFieldsPass B ∧ crcValid B = true) ∧ ∃ p, s.pend = some p ∧ byteAt B 0 = p.addr) ∧
    (statusVariantMatch (s.decodeResponse B).status = true ↔
      (responseFieldsPass B ∧ crcValid B = true) ∧ ∃ p, s.pend = some p ∧ byteAt B 0 = p.addr ∧ byteAt B 1 = p.fc) ∧
    (statusModeDefaulted (s.decodeResponse B).status = true ↔
      statusResult (s.decodeResponse B).status = ResultCode.ok.code ∧ unknownModeByte B) := by
  rcases decodeResponse_status_cases s B with ⟨c, hd, h⟩ | ⟨adu, d, hd, hcases⟩
  · have hfail := not_pass_of_decRsp_error hd
    have hc : c.code ≠ ResultCode.ok.code := fun h => decRsp_error_ne_ok hd (ResultCode.code_inj h)
    simp [h, hfail, hc]
  · have hpass := decRsp_accepts_iff.1 ⟨_, hd⟩
    have hmode := (decRsp_delivers hd).2
    rcases hcases with ⟨hp, h⟩ | ⟨p, hp, ⟨ha, h⟩ | ⟨ha, hv, h⟩ | ⟨ha, h⟩⟩
    · simp [h, hp, hmode]
    · simp [h, hp, ha, ResultCode.code]
    · simp [h, hp, hpass, ha, hv, ResultCode.code]
    · simp [h, hp, hpass, ha, hmode]

end Sys2Proof.Machine
end

section
/-! Obligations of 10_state.md, settled from the rules above. -/

namespace Sys2Proof.Machine

/-- Settles O35: the reset state is written out with the values of R38. -/
theorem resetRegisterValues : Obligations.ResetRegisterValues :=
  ⟨rfl, rfl, rfl, rfl, rfl, rfl⟩

/-- Settles O43: every instruction, and every command that completes, ends with the report of a result. -/
theorem everyInstructionCompletes : Obligations.EveryInstructionCompletes := by
  refine ⟨fun i s => ?_, fun c s t h => (runCommand_reported h).wellFormed, by decide, by decide⟩
  obtain ⟨t, ht, hr, hcfg, hport⟩ := exec_reported i s
  obtain ⟨hpending, hresult, hreserved⟩ := hr.wellFormed
  exact ⟨t, ht, hpending, hresult, hreserved, hcfg, hport⟩

/-- Settles O46: no other command sets a flag of DECODE_RSP, and DECODE_RSP sets each as its way of ending says. -/
theorem responseFlagsFollowTheirRules : Obligations.ResponseFlagsFollowTheirRules := by
  refine ⟨fun i s t hi h => ?_, fun c s t hc h => ?_, fun s t B h => ?_⟩
  · obtain ⟨t', ht', hplain, -⟩ := exec_reportedPlain hi s
    rw [ht'] at h; cases h
    exact hplain.flags_clear
  · rw [runCommand_illegalWord hc] at h; cases h
    exact s.illegalCommand_reportedPlain.flags_clear
  · rw [exec_decodeRsp] at h; cases h
    obtain ⟨hctx, haddr, hvariant, hmode⟩ := decodeResponse_flags s B
    exact ⟨hctx, haddr.trans and_assoc, hvariant.trans and_assoc, hmode⟩

/-- Settles O50: ABORT and the response decodes end the request, every other instruction keeps its context, and
ENCODE_REQ only reports BUSY. -/
theorem pendingRequestStaysUntilEnded : Obligations.PendingRequestStaysUntilEnded := by
  intro i s t p hp h
  refine ⟨?_, ?_⟩
  · by_cases hi : i = .abort ∨ i.decodesResponse = true
    · exact .inr ⟨exec_ends_pending hi h, hi⟩
    · obtain ⟨ha, hr⟩ := not_or.1 hi
      exact .inl (exec_keeps_pending hp (Bool.eq_false_iff.2 hr) ha h)
  · rintro a req rfl
    rw [exec_encodeReq, encodeRequest_busy hp] at h; cases h
    exact ⟨statusResult_packStatus .., hp, rfl⟩

end Sys2Proof.Machine
end

section
/-! The rules about one step of a bank of instances, and the obligation of 20_memory.md settled from them. -/

namespace Sys2Proof.Machine

/-- A number that names no instance steps none. -/
theorem bankStep_of_none {k : Nat} {bank : Bank} (hk : bank[k]? = none) : bankStep k bank = .next bank := by
  simp [bankStep, hk]

/-- A step of an instance of the bank stores that instance's own next state. -/
theorem bankStep_of_some {k : Nat} {bank : Bank} {s s' : State} (hk : bank[k]? = some s) (hs : step s = .next s') :
    bankStep k bank = .next (bank.set k s') := by
  simp [bankStep, hk, hs]

/-- All a bank step that completes can do. -/
theorem bankStep_cases {k : Nat} {bank bank' : Bank} (h : bankStep k bank = .next bank') :
    (bank[k]? = none ∧ bank' = bank) ∨
    (∃ s s', bank[k]? = some s ∧ step s = .next s' ∧ bank' = bank.set k s') := by
  cases hk : bank[k]? with
  | none => rw [bankStep_of_none hk] at h; cases h; exact .inl ⟨rfl, rfl⟩
  | some s =>
    cases hs : step s with
    | next s' => rw [bankStep_of_some hk hs] at h; cases h; exact .inr ⟨s, s', rfl, hs, rfl⟩
    | fault r => simp [bankStep, hk, hs] at h
    | refused r => simp [bankStep, hk, hs] at h

/-- A bank step keeps the number of instances. -/
theorem bankStep_length {k : Nat} {bank bank' : Bank} (h : bankStep k bank = .next bank') :
    bank'.length = bank.length := by
  rcases bankStep_cases h with ⟨-, rfl⟩ | ⟨s, s', -, -, rfl⟩
  · rfl
  · exact List.length_set

/-- A step of one instance changes no other (R54). -/
theorem bankStep_getElem?_ne {j k : Nat} {bank bank' : Bank} (h : bankStep k bank = .next bank') (hjk : j ≠ k) :
    bank'[j]? = bank[j]? := by
  rcases bankStep_cases h with ⟨-, rfl⟩ | ⟨s, s', -, -, rfl⟩
  · rfl
  · exact List.getElem?_set_ne hjk.symm

/-- The instance that steps gets its own next state. -/
theorem bankStep_getElem?_self {k : Nat} {bank bank' : Bank} {s : State} (h : bankStep k bank = .next bank')
    (hk : bank[k]? = some s) : ∃ s', step s = .next s' ∧ bank'[k]? = some s' := by
  rcases bankStep_cases h with ⟨hnone, -⟩ | ⟨s₀, s', hs₀, hs, rfl⟩
  · rw [hk] at hnone; cases hnone
  · rw [hk] at hs₀; cases hs₀
    exact ⟨s', hs, List.getElem?_set_self (List.getElem?_eq_some_iff.1 hk).1⟩

/-- A step of one instance does not depend on the state of another: replace that state, and the step is the same. -/
theorem bankStep_set_ne {j k : Nat} {bank bank' : Bank} (h : bankStep k bank = .next bank') (hjk : j ≠ k) (t : State) :
    bankStep k (bank.set j t) = .next (bank'.set j t) := by
  have hget : (bank.set j t)[k]? = bank[k]? := List.getElem?_set_ne hjk
  rcases bankStep_cases h with ⟨hk, rfl⟩ | ⟨s, s', hk, hs, rfl⟩
  · exact bankStep_of_none (hget.trans hk)
  · rw [bankStep_of_some (hget.trans hk) hs, List.set_comm _ _ hjk]

/-- Steps of two different instances give the same bank in either order. -/
theorem bankStep_comm {j k : Nat} {bank b₁ b₂ : Bank} (hjk : j ≠ k) (hj : bankStep j bank = .next b₁)
    (hk : bankStep k bank = .next b₂) : ∃ b, bankStep k b₁ = .next b ∧ bankStep j b₂ = .next b := by
  have hget : b₂[j]? = bank[j]? := bankStep_getElem?_ne hk hjk
  rcases bankStep_cases hj with ⟨hnone, rfl⟩ | ⟨s, s', hsome, hs, rfl⟩
  · exact ⟨b₂, hk, bankStep_of_none (hget.trans hnone)⟩
  · exact ⟨b₂.set j s', bankStep_set_ne hk hjk s', bankStep_of_some (hget.trans hsome) hs⟩

/-- Settles O54: a bank step writes only the slot of its instance and reads no other, so steps of two instances
commute. -/
theorem instancesShareNothing : Obligations.InstancesShareNothing :=
  ⟨fun _ _ _ h => ⟨bankStep_length h, fun _ hj => bankStep_getElem?_ne h hj, fun _ hk => bankStep_getElem?_self h hk⟩,
    fun _ _ _ _ _ hjk hj hk => bankStep_comm hjk hj hk⟩

end Sys2Proof.Machine
end

section
/-! The layout of an encoded frame (30_encoding.md R64 to R84), read back at the offsets of its table; each layout is
said once, for raw field values. -/

namespace Sys2Proof.Machine

/-! ### Reading past leading bytes -/

@[simp] theorem byteAt_append_length_add (A B : Bytes) (k : Nat) : byteAt (A ++ B) (A.length + k) = byteAt B k := by
  simp [byteAt, List.getD_eq_getElem?_getD, List.getElem?_append_right]

/-- What stands before a CommandResponse does not change how it is parsed (42_decode.md R158). -/
theorem parseBody_append_length (A B : Bytes) : parseBody (A ++ B) A.length = parseBody B 0 := by
  have h0 : byteAt (A ++ B) A.length = byteAt B 0 := byteAt_append_length_add A B 0
  simp [parseBody, be16, be32, le16, Nat.add_assoc, h0]

/-! ### The CommandResponse body (R80) -/

/-- A body at the start of a sequence is parsed back, field by field at the offsets of R80. -/
theorem parseBody_encBody_zero (cr : CommandResponse) (C : Bytes) : parseBody (encBody cr ++ C) 0 = cr := by
  have hposition : be32 (encBody cr ++ C) 0 = cr.positionUm := be32_putBe32 [] _ _
  have hforce : be32 (encBody cr ++ C) 4 = cr.forceMn := be32_putBe32 (putBe32 cr.positionUm) _ _
  have hpower : be16 (encBody cr ++ C) 8 = cr.powerW :=
    be16_putBe16 (putBe32 cr.positionUm ++ putBe32 cr.forceMn) _ _
  have htemperature : byteAt (encBody cr ++ C) 10 = cr.temperatureC := rfl
  have hvoltage : be16 (encBody cr ++ C) 11 = cr.voltageMv :=
    be16_putBe16 (putBe32 cr.positionUm ++ putBe32 cr.forceMn ++ putBe16 cr.powerW ++ [cr.temperatureC]) _ _
  have herror : le16 (encBody cr ++ C) 13 = cr.error :=
    le16_putLe16 (putBe32 cr.positionUm ++ putBe32 cr.forceMn ++ putBe16 cr.powerW ++ [cr.temperatureC]
      ++ putBe16 cr.voltageMv) _ _
  simp only [parseBody, Nat.zero_add, hposition, hforce, hpower, htemperature, hvoltage, herror]

/-- A body serialised at any offset is parsed back unchanged (R76, R158). -/
theorem parseBody_encBody (A : Bytes) (cr : CommandResponse) (C : Bytes) :
    parseBody (A ++ encBody cr ++ C) A.length = cr := by
  rw [List.append_assoc, parseBody_append_length, parseBody_encBody_zero]

/-- R80's table is what the parser reads. -/
theorem bodyFields_eq_parseBody (B : Bytes) (k : Nat) : bodyFields B k = parseBody B k := rfl

theorem bodyFields_encBody (A : Bytes) (cr : CommandResponse) (C : Bytes) :
    bodyFields (A ++ encBody cr ++ C) A.length = cr := parseBody_encBody A cr C

/-! ### Frames -/

/-- The last two bytes of a built frame are the CRC of all before them (40_crc.md R102), at the offset `n` where the
table puts them. -/
theorem frame_crc_at (addr : Byte) {P : Bytes} {n : Nat} (hn : P.length + 1 = n) :
    le16 (frame addr P) n = crc16 ((frame addr P).take n) := by
  subst hn
  have hfield := crcField_frame addr P
  have hcovered := crcCovered_frame addr P
  have hoffset : (frame addr P).length - 2 = P.length + 1 := by rw [frame_length]; omega
  rw [crcField, hoffset] at hfield
  rw [crcCovered, hoffset] at hcovered
  rw [hfield, hcovered]

/-- The layout R64 and R81 share: Manage, in either direction. -/
theorem frame_manage_layout (addr : Byte) (s : U16) (r : U32) (d : U16) :
    let F := frame addr ([0x41] ++ putBe16 s ++ putBe32 r ++ putBe16 d)
    F.length = 12 ∧ byteAt F 0 = addr ∧ byteAt F 1 = 0x41 ∧ be16 F 2 = s ∧ be32 F 4 = r ∧ be16 F 8 = d ∧
      le16 F 10 = crc16 (F.take 10) :=
  ⟨rfl, rfl, rfl, be16_putBe16 [addr, 0x41] s _, be32_putBe32 ([addr, 0x41] ++ putBe16 s) r _,
    be16_putBe16 ([addr, 0x41] ++ putBe16 s ++ putBe32 r) d _, frame_crc_at addr rfl⟩

/-- The layout R65 gives every Command request: a sub-code byte and four bytes. -/
theorem frame_commandRequest_layout (addr sc : Byte) (v : U32) :
    let F := frame addr ([0x64, sc] ++ putBe32 v)
    F.length = 9 ∧ byteAt F 0 = addr ∧ byteAt F 1 = 0x64 ∧ byteAt F 2 = sc ∧ be32 F 3 = v ∧
      le16 F 7 = crc16 (F.take 7) :=
  ⟨rfl, rfl, rfl, rfl, be32_putBe32 [addr, 0x64, sc] v _, frame_crc_at addr rfl⟩

/-- The same for a signed field, whose value `sext_32` reads back (R66, R67). -/
theorem frame_signedCommandRequest_layout (addr sc : Byte) {f : Int} (lo : -2 ^ 31 ≤ f) (hi : f < 2 ^ 31) :
    let F := frame addr ([0x64, sc] ++ putBe32 (i32Pattern f))
    F.length = 9 ∧ byteAt F 0 = addr ∧ byteAt F 1 = 0x64 ∧ byteAt F 2 = sc ∧ sext32 (be32 F 3) = f ∧
      le16 F 7 = crc16 (F.take 7) := by
  obtain ⟨hlength, haddr, hfc, hsc, hvalue, hcrc⟩ := frame_commandRequest_layout addr sc (i32Pattern f)
  exact ⟨hlength, haddr, hfc, hsc, (congrArg sext32 hvalue).trans (sext32_i32Pattern lo hi), hcrc⟩

/-- R71. -/
theorem frame_readRequest_layout (addr : Byte) (a : U16) (w : Byte) :
    let F := frame addr ([0x68] ++ putBe16 a ++ [w])
    F.length = 7 ∧ byteAt F 0 = addr ∧ byteAt F 1 = 0x68 ∧ be16 F 2 = a ∧ byteAt F 4 = w ∧
      le16 F 5 = crc16 (F.take 5) :=
  ⟨rfl, rfl, rfl, be16_putBe16 [addr, 0x68] a _, rfl, frame_crc_at addr rfl⟩

/-- R72. -/
theorem frame_writeRequest_layout (addr : Byte) (a : U16) (w : Byte) (v : U32) :
    let F := frame addr ([0x69] ++ putBe16 a ++ [w] ++ putBe32 v)
    F.length = 11 ∧ byteAt F 0 = addr ∧ byteAt F 1 = 0x69 ∧ be16 F 2 = a ∧ byteAt F 4 = w ∧ be32 F 5 = v ∧
      le16 F 9 = crc16 (F.take 9) :=
  ⟨rfl, rfl, rfl, be16_putBe16 [addr, 0x69] a _, rfl, be32_putBe32 ([addr, 0x69] ++ putBe16 a ++ [w]) v _,
    frame_crc_at addr rfl⟩

/-- R82. -/
theorem frame_commandResponse_layout (addr : Byte) (cr : CommandResponse) :
    let F := frame addr ([0x64] ++ encBody cr)
    F.length = 19 ∧ byteAt F 0 = addr ∧ byteAt F 1 = 0x64 ∧ bodyFields F 2 = cr ∧ le16 F 17 = crc16 (F.take 17) :=
  ⟨rfl, rfl, rfl, bodyFields_encBody [addr, 0x64] cr _, frame_crc_at addr rfl⟩

/-- R83, with the raw Mode byte. -/
theorem frame_readResponse_layout (addr : Byte) (x : U32) (m : Byte) (cr : CommandResponse) :
    let F := frame addr ([0x68] ++ putBe32 x ++ [m] ++ encBody cr)
    F.length = 24 ∧ byteAt F 0 = addr ∧ byteAt F 1 = 0x68 ∧ be32 F 2 = x ∧ byteAt F 6 = m ∧ bodyFields F 7 = cr ∧
      le16 F 22 = crc16 (F.take 22) :=
  ⟨rfl, rfl, rfl, be32_putBe32 [addr, 0x68] x _, rfl, bodyFields_encBody ([addr, 0x68] ++ putBe32 x ++ [m]) cr _,
    frame_crc_at addr rfl⟩

/-- R84, with the raw Mode byte. -/
theorem frame_writeResponse_layout (addr m : Byte) (cr : CommandResponse) :
    let F := frame addr ([0x69, m] ++ encBody cr)
    F.length = 20 ∧ byteAt F 0 = addr ∧ byteAt F 1 = 0x69 ∧ byteAt F 2 = m ∧ bodyFields F 3 = cr ∧
      le16 F 18 = crc16 (F.take 18) :=
  ⟨rfl, rfl, rfl, rfl, bodyFields_encBody [addr, 0x69, m] cr _, frame_crc_at addr rfl⟩

end Sys2Proof.Machine
end

section
/-! A response frame that DECODE_RSP accepts, built from raw fields: what it delivers, with any Mode byte (30_encoding.md
R78, R79; 42_decode.md R159, R162 to R167). -/

namespace Sys2Proof.Machine

/-- A Mode byte R78 does not list reads as SleepMode, and says so (R79, R159). -/
theorem modeOf_unknown {m : Byte} (hm : m ∉ knownModes) : modeOf m = (.sleepMode, true) := by
  simp only [knownModes, List.mem_cons, List.not_mem_nil, or_false, not_or] at hm
  simp only [modeOf, hm, if_false]

/-- `dec_rsp` accepts every built frame of a function code's length (R164). -/
theorem decRsp_frame (addr : Byte) {P : Bytes} {fc : FunctionCode} (hfc : byteAt P 0 = fcCode fc)
    (hlength : P.length + 3 = rspLen fc) :
    decRsp (frame addr P) =
      .ok (.rsp addr (parseRsp fc (frame addr P)).1, (parseRsp fc (frame addr P)).2) := by
  have hcode : byteAt (frame addr P) 1 = fcCode fc := by
    cases P with
    | nil => cases fc <;> cases hlength
    | cons b P => exact hfc
  exact decRsp_ok.2 ⟨fc, fcOf_eq_some.2 hcode, by rw [frame_length, hlength], by simp, rfl⟩

/-- `dec_rsp` of a Read response with any Mode byte (R162). -/
theorem decRsp_readResponse (addr : Byte) (x : U32) (m : Byte) (body : CommandResponse) :
    decRsp (frame addr ([0x68] ++ putBe32 x ++ [m] ++ encBody body)) =
      .ok (.rsp addr (.read x (modeOf m).1 body), (modeOf m).2) := by
  obtain ⟨-, -, -, hvalue, hmode, hbody, -⟩ := frame_readResponse_layout addr x m body
  rw [bodyFields_eq_parseBody] at hbody
  rw [decRsp_frame addr (fc := .read) rfl rfl, parseRsp, hvalue, hmode, hbody]

/-- `dec_rsp` of a Write response with any Mode byte (R163). -/
theorem decRsp_writeResponse (addr m : Byte) (body : CommandResponse) :
    decRsp (frame addr ([0x69, m] ++ encBody body)) =
      .ok (.rsp addr (.write (modeOf m).1 body), (modeOf m).2) := by
  obtain ⟨-, -, -, hmode, hbody, -⟩ := frame_writeResponse_layout addr m body
  rw [bodyFields_eq_parseBody] at hbody
  rw [decRsp_frame addr (fc := .write) rfl rfl, parseRsp, hmode, hbody]

/-- The pending request's context, if there is one, lets a response of address `addr` and function code `fc` through
(R165, R166). -/
def State.contextAdmits (s : State) (addr fc : Byte) : Prop :=
  ∀ p, s.pend = some p → p.addr = addr ∧ (s.cfg.strictVariant = true → p.fc = fc)

/-- DECODE_RSP delivers what `dec_rsp` answers when the context admits the frame (R167). -/
theorem decodeResponse_delivers {s : State} {B : Bytes} {adu : DecodedADU} {d : Bool} (hd : decRsp B = .ok (adu, d))
    (hs : s.contextAdmits (byteAt B 0) (byteAt B 1)) :
    (s.decodeResponse B).dec = some adu ∧ statusResult (s.decodeResponse B).status = ResultCode.ok.code ∧
      statusModeDefaulted (s.decodeResponse B).status = d := by
  rcases decodeResponse_cases s B with ⟨c, hd', -⟩ | ⟨adu', d', hd', -, h⟩ | ⟨adu', d', p, hd', hp, h⟩
  · rw [hd] at hd'; cases hd'
  · rw [hd] at hd'; cases hd'
    simp [h]
  · rw [hd] at hd'; cases hd'
    obtain ⟨haddr, hfc⟩ := hs p hp
    rcases checkContext_cases { s with pend := none } p (byteAt B 1 == p.fc) adu d with
      ⟨hne, -⟩ | ⟨-, hvariant, hstrict, -⟩ | ⟨-, -, h'⟩
    · exact absurd ((decRsp_delivers hd).1.trans haddr.symm) hne
    · exact absurd (hfc hstrict).symm (beq_eq_false_iff_ne.1 hvariant)
    · simp [h, h']

end Sys2Proof.Machine
end

section
/-! The bits of ErrorFlags in its two bytes (30_encoding.md R75), and the opcode map of R62, one equation per word. -/

namespace Sys2Proof.Machine

/-- Low byte first: value bit `p` is bit `p mod 8` of byte `p div 8` (R75). -/
theorem getLsbD_byteAt_putLe16 (e : U16) {p : Nat} (hp : p < 16) :
    (byteAt (putLe16 e) (p / 8)).getLsbD (p % 8) = e.getLsbD p := by
  by_cases hlow : p < 8
  · have hdiv : p / 8 = 0 := by omega
    have hmod : p % 8 = p := by omega
    simp [hdiv, hmod, hlow, byteAt, putLe16]
  · have hdiv : p / 8 = 1 := by omega
    have hmod : 8 + p % 8 = p := by omega
    simp [hdiv, hmod, byteAt, putLe16, Nat.mod_lt]

/-- An operand the interface can carry is passed on (20_memory.md R41). -/
theorem withOperand_of_fits {B : Bytes} (h : B.length ≤ 255) (i : Bytes → Instr) : withOperand B i = .ok (i B) := by
  simp [withOperand, operandFits, h]

theorem decodeCommand_crcInit {c : HostCommand} (h : c.cmd = 0x01) : decodeCommand c = .ok .crcInit := by
  simp [decodeCommand, cmdReserved, cmdOpc, h]
theorem decodeCommand_crcUpdate {c : HostCommand} (h : c.cmd = 0x02) : decodeCommand c = .ok (.crcUpdate c.b) := by
  simp [decodeCommand, cmdReserved, cmdOpc, h]
theorem decodeCommand_encodeReq {c : HostCommand} (h : c.cmd = 0x03) :
    decodeCommand c = .ok (.encodeReq c.addr c.req) := by
  simp [decodeCommand, cmdReserved, cmdOpc, h]
theorem decodeCommand_encodeRsp {c : HostCommand} (h : c.cmd = 0x04) :
    decodeCommand c = .ok (.encodeRsp c.addr c.rsp) := by
  simp [decodeCommand, cmdReserved, cmdOpc, h]
/-- Whatever the length of its operand, 0x05 is a decode command. -/
theorem decodeCommand_decodeReq {c : HostCommand} (h : c.cmd = 0x05) :
    decodeCommand c = withOperand c.bytes .decodeReq := by
  simp [decodeCommand, cmdReserved, cmdOpc, h]
/-- The same for 0x06. -/
theorem decodeCommand_decodeRsp {c : HostCommand} (h : c.cmd = 0x06) :
    decodeCommand c = withOperand c.bytes .decodeRsp := by
  simp [decodeCommand, cmdReserved, cmdOpc, h]
theorem decodeCommand_respLen {c : HostCommand} (h : c.cmd = 0x07) : decodeCommand c = .ok (.respLen c.req) := by
  simp [decodeCommand, cmdReserved, cmdOpc, h]
theorem decodeCommand_abort {c : HostCommand} (h : c.cmd = 0x08) : decodeCommand c = .ok .abort := by
  simp [decodeCommand, cmdReserved, cmdOpc, h]

/-- The words outside R62's map are the words R174 calls illegal. -/
theorem illegalWord_of_unmapped {cmd : Byte} (h : cmd = 0x00 ∨ 0x09 ≤ cmd.toNat) : illegalWord cmd := by
  unfold illegalWord
  revert cmd; decide

end Sys2Proof.Machine
end

section
/-! Obligations of 30_encoding.md, settled from the layouts and rules above. -/

namespace Sys2Proof.Machine

/-- Settles O10: each request variant has the layout of its table; the reserved bytes are the pattern of 0. -/
theorem requestFramesFollowTheirTables : Obligations.RequestFramesFollowTheirTables := by
  refine ⟨fun addr s r d => ?_, fun addr f lo hi => frame_signedCommandRequest_layout addr 0x1C lo hi,
    fun addr p lo hi => frame_signedCommandRequest_layout addr 0x1E lo hi,
    fun addr => frame_commandRequest_layout addr 0x20 0, fun addr h => frame_commandRequest_layout addr 0x22 h,
    fun addr => frame_commandRequest_layout addr 0x00 0, frame_readRequest_layout, frame_writeRequest_layout⟩
  cases s with
  | enable => exact frame_manage_layout addr 0xFF00 r d
  | disable => exact frame_manage_layout addr 0x0000 r d

/-- Settles O11: each response variant has the layout of its table, a Mode by its code. -/
theorem responseFramesFollowTheirTables : Obligations.ResponseFramesFollowTheirTables :=
  ⟨frame_manage_layout, frame_commandResponse_layout, fun addr x m => frame_readResponse_layout addr x (modeCode m),
    fun addr m => frame_writeResponse_layout addr (modeCode m)⟩

/-- Settles O25: exactly the bytes R78 does not list default, and `dec_rsp` never rejects a frame for its Mode byte, so
the context's checks alone decide. -/
theorem unknownModeIsNoFailure : Obligations.UnknownModeIsNoFailure := by
  refine ⟨rfl, modeOf_modeCode, fun b => modeOf_defaulted_iff.symm, fun b hb => by rw [modeOf_unknown hb],
    fun s addr x m body hm hs => ?_, fun s addr m body hm hs => ?_⟩
  · have hd := decRsp_readResponse addr x m body
    rw [modeOf_unknown hm] at hd
    exact ⟨_, rfl, decodeResponse_delivers hd hs⟩
  · have hd := decRsp_writeResponse addr m body
    rw [modeOf_unknown hm] at hd
    exact ⟨_, rfl, decodeResponse_delivers hd hs⟩

/-- Settles O31: one equation per word of the map, and every other word is illegal. -/
theorem opcodeMapIsTotal : Obligations.OpcodeMapIsTotal := fun _ =>
  ⟨decodeCommand_crcInit, decodeCommand_crcUpdate, decodeCommand_encodeReq, decodeCommand_encodeRsp,
    fun h hb => (decodeCommand_decodeReq h).trans (withOperand_of_fits hb _),
    fun h hb => (decodeCommand_decodeRsp h).trans (withOperand_of_fits hb _),
    decodeCommand_respLen, decodeCommand_abort, fun h => decodeCommand_illegalWord (illegalWord_of_unmapped h)⟩

/-- Settles O52: a named flag is one of the sixteen bits, and the body is parsed back whole. -/
theorem errorFlagsPassThroughBitForBit : Obligations.ErrorFlagsPassThroughBitForBit :=
  ⟨fun e _ hp => getLsbD_byteAt_putLe16 e hp, fun pos f e => (getLsbD_byteAt_putLe16 e (pos.at f).isLt).symm,
    fun A C cr => parseBody_encBody A cr C⟩

end Sys2Proof.Machine
end

section
/-! Commands run one after the other, and what a plain report writes. -/

namespace Sys2Proof.Machine

/-- A plain report writes STATUS and nothing else (10_state.md R35). -/
theorem State.finish_eq (s : State) (r : ResultCode) : s.finish r = { s with status := plainStatus r s.pend } := rfl

/-- The commands after one that completes start from the state it leaves. -/
theorem execAll_cons_of_next {i : Instr} {s t : State} (h : exec i s = .next t) (rest : List Instr) :
    execAll (i :: rest) s = execAll rest t := by
  simp [execAll, h]

/-- A command that leaves a state it does not change has done all that issuing it twice does. -/
theorem execAll_twice_of_fixed {i : Instr} {s t : State} (h : exec i s = .next t) (hfixed : exec i t = .next t) :
    execAll [i, i] s = execAll [i] s := by
  rw [execAll_cons_of_next h, execAll_cons_of_next h, execAll_cons_of_next hfixed]

/-- CRC_INIT writes CRC and STATUS, each without reading it (40_crc.md R103). -/
theorem exec_crcInit_frame (s : State) :
    exec .crcInit s = .next { s with crc := 0xFFFF, status := plainStatus .ok s.pend } := by
  rw [exec_crcInit, State.finish_eq]

end Sys2Proof.Machine
end

section
/-! Obligations of 40_crc.md, settled from the rules above. -/

namespace Sys2Proof.Machine

/-- Settles O1: the state CRC_INIT leaves is one it does not change, so a second CRC_INIT adds nothing. -/
theorem crcInitSetsInitialValue : Obligations.CrcInitSetsInitialValue :=
  ⟨fun _ => decodeCommand_crcInit, exec_crcInit_frame,
    fun s => execAll_twice_of_fixed (exec_crcInit_frame s) (exec_crcInit_frame _)⟩

end Sys2Proof.Machine
end

section
/-! What ENCODE_REQ leaves in either branch (41_encode.md R130), and the obligation settled from it. -/

namespace Sys2Proof.Machine

/-- Byte 1 of a request's frame is the request's function code (R116 to R123, R129). -/
theorem byteAt_frame_encReq_one (addr : Byte) (req : RequestPDU) :
    byteAt (frame addr (encReq req)) 1 = fcCode (reqFc req) := by
  rcases req with _ | p | _ | _
  · rfl
  · cases p <;> rfl
  · rfl
  · rfl

/-- STATUS of a success with a request pending: RESULT 0 and PENDING (10_state.md R27). -/
theorem plainStatus_ok_pending (p : Pending) : plainStatus .ok (some p) = 0x0010 :=
  show packStatus .ok true .clear = 0x0010 by decide

/-- STATUS of BUSY, which only a pending request causes: RESULT 10 and PENDING. -/
theorem plainStatus_busy_pending (p : Pending) : plainStatus .busy (some p) = 0x001A :=
  show packStatus .busy true .clear = 0x001A by decide

/-- ENCODE_REQ with none pending: the frame goes to TX and its context opens. -/
theorem exec_encodeReq_idle {s : State} (h : s.pend = none) (addr : Byte) (req : RequestPDU) :
    exec (.encodeReq addr req) s = .next
      { s with
        tx := frame addr (encReq req)
        pend := some { addr := addr, fc := fcCode (reqFc req), expLen := BitVec.ofNat 8 (expectedResponseLen req) }
        status := 0x0010 } := by
  rw [exec_encodeReq, encodeRequest_idle h, byteAt_frame_encReq_one, State.finish_eq, plainStatus_ok_pending]

/-- ENCODE_REQ with a request pending writes STATUS alone. -/
theorem exec_encodeReq_busy {s : State} {p : Pending} (h : s.pend = some p) (addr : Byte) (req : RequestPDU) :
    exec (.encodeReq addr req) s = .next { s with status := 0x001A } := by
  rw [exec_encodeReq, encodeRequest_busy h, State.finish_eq, h, plainStatus_busy_pending]

/-- Settles O8: one rule per branch of R130, with `fc` read from the frame that was built. -/
theorem encodeReqOpensContextOrReportsBusy : Obligations.EncodeReqOpensContextOrReportsBusy :=
  ⟨fun _ => decodeCommand_encodeReq, fun _ addr req h => exec_encodeReq_idle h addr req, byteAt_frame_encReq_one,
    fun _ _ addr req h => exec_encodeReq_busy h addr req⟩

end Sys2Proof.Machine
end

section
/-! What the frame decoders deliver, for a frame whose length and function code agree, whose fields parse and whose CRC
holds (42_decode.md R149 to R167). -/

namespace Sys2Proof.Machine

/-! ### The fields of a request -/

/-- A known sub-function is delivered with the fields of R149. -/
theorem parseReq_manage {B : Bytes} {f : SubFunction} (h : be16 B 2 = subFunctionCode f) (policy : ReservedPolicy) :
    parseReq policy .manage B = .ok (.manage f (be32 B 4) (be16 B 8)) := by
  simp [parseReq, h]

/-- R150. -/
theorem parseReq_force {B : Bytes} (h : byteAt B 2 = 0x1C) (policy : ReservedPolicy) :
    parseReq policy .command B = .ok (.command (.forceControlStream (be32 B 3))) := by
  simp [parseReq, parseReqCommand, h]

/-- R151. -/
theorem parseReq_position {B : Bytes} (h : byteAt B 2 = 0x1E) (policy : ReservedPolicy) :
    parseReq policy .command B = .ok (.command (.positionControlStream (be32 B 3))) := by
  simp [parseReq, parseReqCommand, h]

/-- R152, of reserved bytes that pass. -/
theorem parseReq_kinematic {B : Bytes} {policy : ReservedPolicy} (h : byteAt B 2 = 0x20)
    (hz : reservedPasses policy B = true) : parseReq policy .command B = .ok (.command .kinematicDataStream) := by
  simp [parseReq, parseReqCommand, h, hz]

/-- R153. -/
theorem parseReq_haptic {B : Bytes} (h : byteAt B 2 = 0x22) (policy : ReservedPolicy) :
    parseReq policy .command B = .ok (.command (.hapticDataStream (be32 B 3))) := by
  simp [parseReq, parseReqCommand, h]

/-- R154, of reserved bytes that pass. -/
theorem parseReq_sleep {B : Bytes} {policy : ReservedPolicy} (h : byteAt B 2 = 0x00)
    (hz : reservedPasses policy B = true) : parseReq policy .command B = .ok (.command .sleepDataStream) := by
  simp [parseReq, parseReqCommand, h, hz]

/-- A byte of a part cut out of a sequence is a byte of the sequence. -/
theorem byteAt_take_drop (B : Bytes) (n : Nat) {m k : Nat} (hk : k < m) :
    byteAt ((B.drop n).take m) k = byteAt B (n + k) := by
  simp [byteAt, List.getD_eq_getElem?_getD, List.getElem?_take_of_lt hk]

/-- Reserved bytes that are all zero where `Reject` looks at them pass under either policy (R147). -/
theorem reservedPasses_of_zero {policy : ReservedPolicy} {B : Bytes}
    (h : policy = .reject → (B.drop 3).take 4 = [0, 0, 0, 0]) : reservedPasses policy B = true := by
  cases policy with
  | ignore => rfl
  | reject =>
    have hbyte (k : Nat) (hk : k < 4) : byteAt B (3 + k) = byteAt [0, 0, 0, 0] k := by
      rw [← h rfl, byteAt_take_drop B 3 hk]
    simp [reservedPasses, reservedZero, hbyte 0, hbyte 1, hbyte 2, hbyte 3]

/-! ### DECODE_REQ -/

/-- A CRC-valid request frame of its function code's length is delivered as its fields parse (R157). -/
theorem exec_decodeReq_delivers {s : State} {B : Bytes} {fc : FunctionCode} {pdu : RequestPDU}
    (hcrc : crcValid B = true) (hlength : B.length = reqLen fc) (hfc : byteAt B 1 = fcCode fc)
    (hpdu : parseReq s.cfg.reservedPolicy fc B = .ok pdu) : RequestDelivered s (.decodeReq B) (byteAt B 0) pdu := by
  have htwo : 2 ≤ B.length := hlength ▸ le_trans (by decide) (minReq_le fc)
  have haccepts : decReq s.cfg.reservedPolicy B = .ok (.req (byteAt B 0) pdu) :=
    decReq_ok.2 ⟨fc, pdu, fcOf_eq_some.2 hfc, hlength, hpdu, (crcValid_iff htwo).1 hcrc, rfl⟩
  rw [RequestDelivered, exec_decodeReq]
  rcases decodeRequest_cases s B with ⟨c, hd, -⟩ | ⟨adu, hd, h⟩
  · rw [haccepts] at hd; cases hd
  · rw [haccepts] at hd; cases hd
    rw [h, State.finish_eq]

/-! ### The fields of a response -/

/-- R162: the Mode is what `mode` reads from the Mode byte. -/
theorem parseRsp_read {B : Bytes} {m : Mode} {d : Bool} (h : modeOf (byteAt B 6) = (m, d)) :
    parseRsp .read B = (.read (be32 B 2) m (bodyFields B 7), d) := by
  simp [parseRsp, h, bodyFields_eq_parseBody]

/-- R163. -/
theorem parseRsp_write {B : Bytes} {m : Mode} {d : Bool} (h : modeOf (byteAt B 2) = (m, d)) :
    parseRsp .write B = (.write m (bodyFields B 3), d) := by
  simp [parseRsp, h, bodyFields_eq_parseBody]

/-- A Mode byte that is a Mode's code reads as that Mode (R159). -/
theorem modeOf_of_eq_code {b : Byte} {m : Mode} (h : b = modeCode m) : modeOf b = (m, false) := by
  rw [h, modeOf_modeCode]

/-! ### DECODE_RSP -/

/-- `dec_rsp` accepts every CRC-valid frame of its function code's length (R164). -/
theorem decRsp_of_crcValid {B : Bytes} {fc : FunctionCode} (hcrc : crcValid B = true) (hlength : B.length = rspLen fc)
    (hfc : byteAt B 1 = fcCode fc) : decRsp B = .ok (.rsp (byteAt B 0) (parseRsp fc B).1, (parseRsp fc B).2) := by
  have htwo : 2 ≤ B.length := hlength ▸ le_trans (by decide) (minRsp_le fc)
  exact decRsp_ok.2 ⟨fc, fcOf_eq_some.2 hfc, hlength, (crcValid_iff htwo).1 hcrc, rfl⟩

/-- An accepted frame with no request pending is delivered (R167). -/
theorem decodeResponse_idle {s : State} {B : Bytes} {adu : DecodedADU} {d : Bool} (hd : decRsp B = .ok (adu, d))
    (hp : s.pend = none) :
    s.decodeResponse B = { s with dec := some adu, status := packStatus .ok false ⟨false, false, false, d⟩ } := by
  rcases decodeResponse_cases s B with ⟨c, hd', -⟩ | ⟨adu', d', hd', -, h⟩ | ⟨adu', d', p, hd', hp', -⟩
  · rw [hd] at hd'; cases hd'
  · rw [hd] at hd'; cases hd'
    simp [h, State.report, hp]
  · rw [hp] at hp'; cases hp'

/-- An accepted frame of the pending request's address and function code is delivered, and ends the request (R165 to
R168). -/
theorem decodeResponse_match {s : State} {B : Bytes} {p : Pending} {adu : DecodedADU} {d : Bool}
    (hd : decRsp B = .ok (adu, d)) (hp : s.pend = some p) (haddr : p.addr = byteAt B 0) (hfc : p.fc = byteAt B 1) :
    s.decodeResponse B =
      { s with pend := none, dec := some adu, status := packStatus .ok false ⟨true, true, true, d⟩ } := by
  have hvariant : (byteAt B 1 == p.fc) = true := beq_iff_eq.2 hfc.symm
  rcases decodeResponse_cases s B with ⟨c, hd', -⟩ | ⟨adu', d', hd', hp', -⟩ | ⟨adu', d', p', hd', hp', h⟩
  · rw [hd] at hd'; cases hd'
  · rw [hp] at hp'; cases hp'
  · rw [hd] at hd'; cases hd'
    rw [hp] at hp'; cases hp'
    rw [h, hvariant]
    rcases checkContext_cases { s with pend := none } p true adu d with ⟨hne, -⟩ | ⟨-, hfalse, -⟩ | ⟨-, -, h'⟩
    · exact absurd ((decRsp_delivers hd).1.trans haddr.symm) hne
    · cases hfalse
    · exact h'

/-- STATUS of a delivery without a context: MODE_DEFAULTED alone can be set (10_state.md R27, R33). -/
theorem packStatus_delivered_idle (d : Bool) :
    packStatus .ok false ⟨false, false, false, d⟩ = if d then 0x0100 else 0x0000 := by
  cases d <;> decide

/-- STATUS of a delivery to a context that matches: CTX, ADDR_MATCH and VARIANT_MATCH besides (R30 to R32). -/
theorem packStatus_delivered_match (d : Bool) :
    packStatus .ok false ⟨true, true, true, d⟩ = if d then 0x01E0 else 0x00E0 := by
  cases d <;> decide

/-- A CRC-valid response frame of its function code's length is delivered as its fields parse (R164, R167). -/
theorem exec_decodeRsp_delivers {B : Bytes} {fc : FunctionCode} {pdu : ResponsePDU} {d : Bool}
    (hcrc : crcValid B = true) (hlength : B.length = rspLen fc) (hfc : byteAt B 1 = fcCode fc)
    (hpdu : parseRsp fc B = (pdu, d)) : ResponseDelivered (.decodeRsp B) (byteAt B 0) (fcCode fc) pdu d := by
  have haccepts := decRsp_of_crcValid hcrc hlength hfc
  rw [hpdu] at haccepts
  refine ⟨fun s hp => ?_, fun s p hp haddr hcode => ?_⟩
  · rw [exec_decodeRsp, decodeResponse_idle haccepts hp, packStatus_delivered_idle]
  · rw [exec_decodeRsp, decodeResponse_match haccepts hp haddr (hcode.trans hfc.symm), packStatus_delivered_match]

end Sys2Proof.Machine
end

section
/-! Obligations of 42_decode.md, settled from the rules above. -/

namespace Sys2Proof.Machine

/-- Settles O15: each variant's length and code bytes let its frame through to its rule, which reads its fields. -/
theorem decodeReqDeliversEveryVariant : Obligations.DecodeReqDeliversEveryVariant :=
  ⟨fun _ h hb => (decodeCommand_decodeReq h).trans (withOperand_of_fits hb _), fun _ _ hcrc =>
    ⟨fun hl hfc hf => exec_decodeReq_delivers (fc := .manage) hcrc hl hfc (parseReq_manage (f := .enable) hf _),
    fun hl hfc hf => exec_decodeReq_delivers (fc := .manage) hcrc hl hfc (parseReq_manage (f := .disable) hf _),
    fun hl hfc hsc => exec_decodeReq_delivers (fc := .command) hcrc hl hfc (parseReq_force hsc _),
    fun hl hfc hsc => exec_decodeReq_delivers (fc := .command) hcrc hl hfc (parseReq_position hsc _),
    fun hl hfc hsc hz => exec_decodeReq_delivers (fc := .command) hcrc hl hfc
      (parseReq_kinematic hsc (reservedPasses_of_zero hz)),
    fun hl hfc hsc => exec_decodeReq_delivers (fc := .command) hcrc hl hfc (parseReq_haptic hsc _),
    fun hl hfc hsc hz => exec_decodeReq_delivers (fc := .command) hcrc hl hfc
      (parseReq_sleep hsc (reservedPasses_of_zero hz)),
    fun hl hfc => exec_decodeReq_delivers (fc := .read) hcrc hl hfc rfl,
    fun hl hfc => exec_decodeReq_delivers (fc := .write) hcrc hl hfc rfl⟩⟩

/-- Settles O20: each variant's length and function code let its frame through to its rule; a Mode byte reads as its
Mode, or is replaced and flagged. -/
theorem decodeRspDeliversEveryVariant : Obligations.DecodeRspDeliversEveryVariant :=
  ⟨fun _ h hb => (decodeCommand_decodeRsp h).trans (withOperand_of_fits hb _), fun _ hcrc =>
    ⟨fun hl hfc => exec_decodeRsp_delivers (fc := .manage) hcrc hl hfc rfl,
    fun hl hfc => exec_decodeRsp_delivers (fc := .command) hcrc hl hfc rfl,
    fun _ hl hfc hm => exec_decodeRsp_delivers (fc := .read) hcrc hl hfc (parseRsp_read (modeOf_of_eq_code hm)),
    fun hl hfc hm => exec_decodeRsp_delivers (fc := .read) hcrc hl hfc (parseRsp_read (modeOf_unknown hm)),
    fun _ hl hfc hm => exec_decodeRsp_delivers (fc := .write) hcrc hl hfc (parseRsp_write (modeOf_of_eq_code hm)),
    fun hl hfc hm => exec_decodeRsp_delivers (fc := .write) hcrc hl hfc (parseRsp_write (modeOf_unknown hm))⟩⟩

/-- Settles O24: DECODE_RSP ends the request however it ends itself, and ENCODE_REQ succeeds where none is pending. -/
theorem decodeRspEndsPendingRequest : Obligations.DecodeRspEndsPendingRequest := by
  intro s B
  have hp : (s.decodeResponse B).pend = none := exec_ends_pending (.inr rfl) (exec_decodeRsp B s)
  have hok : statusResult 0x0010 = 0 := by decide
  exact ⟨_, exec_decodeRsp B s, hp, fun addr req => ⟨_, exec_encodeReq_idle hp addr req, hok, Option.some_ne_none _⟩⟩

end Sys2Proof.Machine
end

section
/-! The control commands RESP_LEN and ABORT and the illegal words (43_control.md R172 to R174): what STATUS each of them
leaves, and the obligations settled from that. -/

namespace Sys2Proof.Machine

/-- A step takes the command at the head of the port and runs it (10_state.md R20). -/
theorem step_command {s : State} {c : HostCommand} {rest : List HostEvent} (h : s.port = .command c :: rest) :
    step s = runCommand c { s with port := rest } := by
  simp [step, State.nextEvent, h]

/-- STATUS of a success with none pending: every bit clear (R27). -/
theorem plainStatus_ok_idle : plainStatus .ok none = 0x0000 :=
  show packStatus .ok false .clear = 0x0000 by decide

/-- STATUS of ILLEGAL_COMMAND: RESULT 11, and PENDING as it was (R27, R174). -/
theorem plainStatus_illegalCommand (pend : Option Pending) :
    plainStatus .illegalCommand pend = if pend.isSome then 0x001B else 0x000B := by
  cases pend with
  | none => exact show packStatus .illegalCommand false .clear = 0x000B by decide
  | some _ => exact show packStatus .illegalCommand true .clear = 0x001B by decide

/-- ABORT writes PEND and STATUS, each without reading it (R173). -/
theorem exec_abort_frame (s : State) : exec .abort s = .next { s with pend := none, status := 0x0000 } := by
  rw [exec_abort, State.finish_eq, plainStatus_ok_idle]

/-- Settles O30: the step runs the word, whose only effect is the report of ILLEGAL_COMMAND. -/
theorem illegalWordsChangeOnlyStatus : Obligations.IllegalWordsChangeOnlyStatus := by
  intro s c rest hc hport
  rw [step_command hport, runCommand_illegalWord hc, State.illegalCommand, State.finish_eq, plainStatus_illegalCommand]

/-- Settles O28: both commands store the expected response length, whose value is looked up by the function code. -/
theorem respLenLooksUpLength : Obligations.RespLenLooksUpLength := by
  refine ⟨fun _ => decodeCommand_respLen, fun s req => ?_, fun s addr req hp => ?_⟩
  · rw [exec_respLen, State.finish_eq, expectedResponseLen]
    cases reqFc req <;> rfl
  · exact ⟨_, _, _, exec_encodeReq_idle hp addr req, exec_respLen req s, rfl, rfl⟩

/-- Settles O29: ABORT leaves no request pending, and where none is pending ENCODE_REQ succeeds. -/
theorem abortEndsPendingRequest : Obligations.AbortEndsPendingRequest := by
  refine ⟨fun _ => decodeCommand_abort, exec_abort_frame, fun s addr req => ?_⟩
  have hok : statusResult 0x0010 = 0 := by decide
  rw [execAll_cons_of_next (exec_abort_frame s), execAll_cons_of_next (exec_encodeReq_idle rfl addr req)]
  exact ⟨_, rfl, hok, rfl⟩

end Sys2Proof.Machine
end

section
/-! What the frame decoders answer to a frame that fails a check, one rule per check of R141, and how a decode command
that fails ends (60_exceptions.md R192). -/

namespace Sys2Proof.Machine

/-! ### The structural checks of either direction -/

/-- R142. -/
theorem frameFc_tooShort {min : Nat} {B : Bytes} (h : B.length < min) (len : FunctionCode → Nat) :
    frameFc min len B = .error .frameTooShort := if_pos h

/-- A byte that is none of the four codes is no function code (30_encoding.md R88). -/
theorem fcOf_eq_none {b : Byte} (h : b ∉ knownCodes) : fcOf b = none := by
  simp only [knownCodes, List.mem_cons, List.not_mem_nil, or_false, not_or] at h
  simp only [fcOf, h, if_false]

/-- R143. -/
theorem frameFc_unknown {min : Nat} {B : Bytes} (hmin : min ≤ B.length) (hfc : byteAt B 1 ∉ knownCodes)
    (len : FunctionCode → Nat) : frameFc min len B = .error .unknownFunctionCode := by
  simp [frameFc, Nat.not_lt.2 hmin, fcOf_eq_none hfc]

/-- R144. -/
theorem frameFc_lengthMismatch {min : Nat} {len : FunctionCode → Nat} {B : Bytes} {fc : FunctionCode}
    (hmin : min ≤ B.length) (hfc : byteAt B 1 = fcCode fc) (hlength : B.length ≠ len fc) :
    frameFc min len B = .error .lengthMismatch := by
  simp [frameFc, Nat.not_lt.2 hmin, hfc, hlength]

/-- R148, of a frame with a CRC field. -/
theorem afterCrc_mismatch {α : Type} {B : Bytes} (htwo : 2 ≤ B.length) (hcrc : crcValid B = false) (x : α) :
    afterCrc B x = .error .checksumMismatch :=
  if_pos fun hfield => Bool.eq_false_iff.1 hcrc ((crcValid_iff htwo).2 hfield)

/-! ### The field checks of a request -/

/-- R145. -/
theorem parseReq_unknownSubCode {B : Bytes} (h : byteAt B 2 ∉ ([0x1C, 0x1E, 0x20, 0x22, 0x00] : List Byte))
    (policy : ReservedPolicy) : parseReq policy .command B = .error .unknownSubCode := by
  simp only [List.mem_cons, List.not_mem_nil, or_false, not_or] at h
  simp only [parseReq, parseReqCommand, h, if_false]

/-- R146. -/
theorem parseReq_invalidSubFunction {B : Bytes} (henable : be16 B 2 ≠ 0xFF00) (hdisable : be16 B 2 ≠ 0x0000)
    (policy : ReservedPolicy) : parseReq policy .manage B = .error .invalidSubFunction := by
  simp only [parseReq, subFunctionOf, henable, hdisable, if_false]

/-- Four bytes cut out of a sequence that has them. -/
theorem take_four_drop {B : Bytes} {n : Nat} (h : n + 4 ≤ B.length) :
    (B.drop n).take 4 = [byteAt B n, byteAt B (n + 1), byteAt B (n + 2), byteAt B (n + 3)] := by
  have hlength : ((B.drop n).take 4).length = 4 := by rw [List.length_take, List.length_drop]; omega
  refine List.ext_getElem hlength fun k hk hk4 => ?_
  have hbyte : ((B.drop n).take 4)[k] = byteAt B (n + k) := by
    rw [← byteAt_take_drop B n (hlength ▸ hk), byteAt, List.getD_eq_getElem _ _ hk]
  rw [hbyte]
  match k, hk4 with
  | 0, _ | 1, _ | 2, _ | 3, _ => rfl

/-- Under `Reject` a non-zero reserved byte does not pass (R147). -/
theorem reservedPasses_reject_of_nonzero {B : Bytes} (hlength : 7 ≤ B.length)
    (h : (B.drop 3).take 4 ≠ [0, 0, 0, 0]) : reservedPasses .reject B = false := by
  rw [take_four_drop hlength] at h
  simpa [reservedPasses, reservedZero, and_assoc] using h

/-- R147, of either sub-code with reserved bytes. -/
theorem parseReq_reservedNonzero {B : Bytes} {policy : ReservedPolicy}
    (hsc : byteAt B 2 ∈ ([0x20, 0x00] : List Byte)) (hz : reservedPasses policy B = false) :
    parseReq policy .command B = .error .reservedNonzero := by
  simp only [List.mem_cons, List.not_mem_nil, or_false] at hsc
  rcases hsc with hsc | hsc
  · simp [parseReq, parseReqCommand, hsc, hz]
  · simp [parseReq, parseReqCommand, hsc, hz]

/-- A Command request whose sub-code is known and whose reserved bytes pass is parsed (R150 to R154). -/
theorem parseReq_command_ok {B : Bytes} {policy : ReservedPolicy}
    (h : byteAt B 2 ∈ ([0x1C, 0x1E, 0x22] : List Byte) ∨
      byteAt B 2 ∈ ([0x20, 0x00] : List Byte) ∧ reservedPasses policy B = true) :
    ∃ pdu, parseReq policy .command B = .ok pdu := by
  simp only [List.mem_cons, List.not_mem_nil, or_false] at h
  rcases h with (hsc | hsc | hsc) | ⟨hsc | hsc, hz⟩
  · exact ⟨_, parseReq_force hsc policy⟩
  · exact ⟨_, parseReq_position hsc policy⟩
  · exact ⟨_, parseReq_haptic hsc policy⟩
  · exact ⟨_, parseReq_kinematic hsc hz⟩
  · exact ⟨_, parseReq_sleep hsc hz⟩

/-- A request that passes the checks before the CRC has its function code's length and fields that parse (R141). -/
theorem parses_of_requestFieldsPass {policy : ReservedPolicy} {B : Bytes} (h : requestFieldsPass policy B) :
    ∃ fc pdu, byteAt B 1 = fcCode fc ∧ B.length = reqLen fc ∧ parseReq policy fc B = .ok pdu := by
  rcases h with ⟨hl, hfc, hf⟩ | ⟨hl, hfc, hsc⟩ | ⟨hl, hfc, hsc, hz⟩ | ⟨hl, hfc⟩ | ⟨hl, hfc⟩
  · rcases hf with hf | hf
    · exact ⟨.manage, _, hfc, hl, parseReq_manage (f := .enable) hf policy⟩
    · exact ⟨.manage, _, hfc, hl, parseReq_manage (f := .disable) hf policy⟩
  · obtain ⟨pdu, hpdu⟩ := parseReq_command_ok (policy := policy) (.inl hsc)
    exact ⟨.command, pdu, hfc, hl, hpdu⟩
  · obtain ⟨pdu, hpdu⟩ := parseReq_command_ok (.inr ⟨hsc, reservedPasses_of_zero hz⟩)
    exact ⟨.command, pdu, hfc, hl, hpdu⟩
  · exact ⟨.read, _, hfc, hl, rfl⟩
  · exact ⟨.write, _, hfc, hl, rfl⟩

/-! ### DECODE_REQ -/

/-- DECODE_REQ of a frame `dec_req` rejects (R157). -/
theorem decodeRequest_error {s : State} {B : Bytes} {c : ResultCode} (h : decReq s.cfg.reservedPolicy B = .error c) :
    s.decodeRequest B = { s with dec := none }.finish c := by
  simp only [State.decodeRequest, h]

/-- A DECODE_REQ whose `dec_req` fails reports the failure and delivers nothing (R157, R192). -/
theorem exec_decodeReq_fails {s : State} {B : Bytes} {c : ResultCode}
    (h : decReq s.cfg.reservedPolicy B = .error c) : RequestFails s (.decodeReq B) c := by
  rw [RequestFails, exec_decodeReq, decodeRequest_error h, State.finish_eq]

/-- A structural failure is reported before any other (R189). -/
theorem exec_decodeReq_malformed {B : Bytes} {c : ResultCode} (h : frameFc minReq reqLen B = .error c) (s : State) :
    RequestFails s (.decodeReq B) c :=
  exec_decodeReq_fails (by rw [decReq, h])

/-- A field that does not parse is reported whatever the CRC (R189). -/
theorem exec_decodeReq_unparsed {s : State} {B : Bytes} {fc : FunctionCode} {c : ResultCode}
    (hlength : B.length = reqLen fc) (hfc : byteAt B 1 = fcCode fc)
    (hfields : parseReq s.cfg.reservedPolicy fc B = .error c) : RequestFails s (.decodeReq B) c :=
  exec_decodeReq_fails (by rw [decReq, (frameFc_ok minReq_le).2 ⟨fcOf_eq_some.2 hfc, hlength⟩]; simp only [hfields])

/-- A wrong CRC is reported when nothing else is wrong (R189). -/
theorem exec_decodeReq_checksumMismatch {s : State} {B : Bytes} (h : requestFieldsPass s.cfg.reservedPolicy B)
    (hcrc : crcValid B = false) : RequestFails s (.decodeReq B) .checksumMismatch := by
  obtain ⟨fc, pdu, hfc, hlength, hpdu⟩ := parses_of_requestFieldsPass h
  have htwo : 2 ≤ B.length := hlength ▸ le_trans (by decide) (minReq_le fc)
  apply exec_decodeReq_fails
  rw [decReq, (frameFc_ok minReq_le).2 ⟨fcOf_eq_some.2 hfc, hlength⟩]
  simp only [hpdu, afterCrc_mismatch htwo hcrc]

/-! ### DECODE_RSP -/

/-- A rejection writes DEC and STATUS and nothing else. -/
theorem State.rejectResponse_eq (s : State) (r : ResultCode) (f : RspFlags) :
    s.rejectResponse r f = { s with dec := none, status := packStatus r s.pend.isSome f } := rfl

/-- DECODE_RSP of a frame `dec_rsp` rejects (R167). -/
theorem decodeResponse_error {B : Bytes} {c : ResultCode} (h : decRsp B = .error c) (s : State) :
    s.decodeResponse B = { s with pend := none }.rejectResponse c ⟨s.pend.isSome, false, false, false⟩ := by
  simp only [State.decodeResponse, h]

/-- DECODE_RSP of a frame `dec_rsp` accepts, with a request pending (R167). -/
theorem decodeResponse_pending {s : State} {B : Bytes} {adu : DecodedADU} {d : Bool} {p : Pending}
    (hd : decRsp B = .ok (adu, d)) (hp : s.pend = some p) :
    s.decodeResponse B = { s with pend := none }.checkContext p (byteAt B 1 == p.fc) adu d := by
  simp only [State.decodeResponse, hd, hp]

/-- The address check, first of the context's two (R165). -/
theorem checkContext_addressMismatch {p : Pending} {adu : DecodedADU} (h : aduAddr adu ≠ p.addr) (s : State)
    (vm d : Bool) :
    s.checkContext p vm adu d = s.rejectResponse .addressMismatch ⟨true, false, false, false⟩ := if_pos h

/-- The variant check, of a frame of the right address (R166). -/
theorem checkContext_unexpectedVariant {s : State} {p : Pending} {adu : DecodedADU} (haddr : aduAddr adu = p.addr)
    (hstrict : s.cfg.strictVariant = true) (d : Bool) :
    s.checkContext p false adu d = s.rejectResponse .unexpectedVariant ⟨true, true, false, false⟩ := by
  simp [State.checkContext, haddr, hstrict]

/-- A DECODE_RSP whose `dec_rsp` fails reports the failure, delivers nothing and ends the request (R167, R168). -/
theorem exec_decodeRsp_fails {B : Bytes} {c : ResultCode} (h : decRsp B = .error c) (s : State) :
    ResponseFails s (.decodeRsp B) c := by
  rw [ResponseFails, exec_decodeRsp, decodeResponse_error h, State.rejectResponse_eq, Option.isSome_none]

/-- A structural failure is reported before any other (R190). -/
theorem exec_decodeRsp_malformed {B : Bytes} {c : ResultCode} (h : frameFc minRsp rspLen B = .error c) (s : State) :
    ResponseFails s (.decodeRsp B) c :=
  exec_decodeRsp_fails (by rw [decRsp, h]) s

/-- A wrong CRC is reported before the context is looked at (R190). -/
theorem exec_decodeRsp_checksumMismatch {B : Bytes} (h : responseFieldsPass B) (hcrc : crcValid B = false)
    (s : State) : ResponseFails s (.decodeRsp B) .checksumMismatch := by
  obtain ⟨fc, hfc, hlength⟩ := responseFieldsPass_iff.1 h
  have htwo : 2 ≤ B.length := hlength ▸ le_trans (by decide) (minRsp_le fc)
  apply exec_decodeRsp_fails
  rw [decRsp, (frameFc_ok minRsp_le).2 ⟨hfc, hlength⟩]
  exact afterCrc_mismatch htwo hcrc _

/-- A frame of another address ends the request with ADDRESS_MISMATCH (R165). -/
theorem exec_decodeRsp_addressMismatch {s : State} {B : Bytes} {p : Pending} (hfields : responseFieldsPass B)
    (hcrc : crcValid B = true) (hp : s.pend = some p) (haddr : byteAt B 0 ≠ p.addr) :
    exec (.decodeRsp B) s = .next { s with pend := none, dec := none, status := 0x0028 } := by
  have hstatus : packStatus .addressMismatch false ⟨true, false, false, false⟩ = 0x0028 := by decide
  obtain ⟨⟨adu, d⟩, hd⟩ := decRsp_accepts_iff.2 ⟨hfields, hcrc⟩
  have hadu : aduAddr adu ≠ p.addr := (decRsp_delivers hd).1.trans_ne haddr
  rw [exec_decodeRsp, decodeResponse_pending hd hp, checkContext_addressMismatch hadu, State.rejectResponse_eq,
    Option.isSome_none, hstatus]

/-- A frame of the right address and another function code ends the request with UNEXPECTED_VARIANT under
STRICT_VARIANT (R166). -/
theorem exec_decodeRsp_unexpectedVariant {s : State} {B : Bytes} {p : Pending} (hfields : responseFieldsPass B)
    (hcrc : crcValid B = true) (hp : s.pend = some p) (haddr : byteAt B 0 = p.addr) (hfc : byteAt B 1 ≠ p.fc)
    (hstrict : s.cfg.strictVariant = true) :
    exec (.decodeRsp B) s = .next { s with pend := none, dec := none, status := 0x0069 } := by
  have hstatus : packStatus .unexpectedVariant false ⟨true, true, false, false⟩ = 0x0069 := by decide
  obtain ⟨⟨adu, d⟩, hd⟩ := decRsp_accepts_iff.2 ⟨hfields, hcrc⟩
  have hadu : aduAddr adu = p.addr := (decRsp_delivers hd).1.trans haddr
  rw [exec_decodeRsp, decodeResponse_pending hd hp, beq_false_of_ne hfc,
    checkContext_unexpectedVariant (s := { s with pend := none }) hadu hstrict, State.rejectResponse_eq,
    Option.isSome_none, hstatus]

end Sys2Proof.Machine
end

section
/-! Obligations of 60_exceptions.md, settled from the rules above. -/

namespace Sys2Proof.Machine

/-- Settles O14: each clause leaves one check of R189's order to fail first, and that check's rule gives the code. -/
theorem decodeReqReportsFirstCause : Obligations.DecodeReqReportsFirstCause := fun s _ =>
  ⟨fun hshort => exec_decodeReq_malformed (frameFc_tooShort hshort _) s,
    fun hmin hfc => exec_decodeReq_malformed (frameFc_unknown hmin hfc _) s,
    fun _ hmin hfc hlength => exec_decodeReq_malformed (frameFc_lengthMismatch hmin hfc hlength) s,
    fun hlength hfc hsc => exec_decodeReq_unparsed (fc := .command) hlength hfc (parseReq_unknownSubCode hsc _),
    fun hlength hfc henable hdisable => exec_decodeReq_unparsed (fc := .manage) hlength hfc
      (parseReq_invalidSubFunction henable hdisable _),
    fun hlength hfc hsc hreject hz => exec_decodeReq_unparsed (fc := .command) hlength hfc
      (parseReq_reservedNonzero hsc (hreject ▸ reservedPasses_reject_of_nonzero (by omega) hz)),
    exec_decodeReq_checksumMismatch⟩

/-- Settles O19: the structural checks and the CRC fail in `dec_rsp`; the address and the variant are compared with the
context only for a frame it accepts. -/
theorem decodeRspReportsFirstCause : Obligations.DecodeRspReportsFirstCause := fun s _ =>
  ⟨fun hshort => exec_decodeRsp_malformed (frameFc_tooShort hshort _) s,
    fun hmin hfc => exec_decodeRsp_malformed (frameFc_unknown hmin hfc _) s,
    fun _ hmin hfc hlength => exec_decodeRsp_malformed (frameFc_lengthMismatch hmin hfc hlength) s,
    fun hfields hcrc => exec_decodeRsp_checksumMismatch hfields hcrc s,
    fun _ => exec_decodeRsp_addressMismatch, fun _ => exec_decodeRsp_unexpectedVariant⟩

end Sys2Proof.Machine
end

section
/-! The row a frame decoder reads from a frame that passes the structural checks (30_encoding.md R64 to R84), what it
reads from the frame of a row, and why no byte of a frame is dropped. -/

namespace Sys2Proof.Machine

/-! ### What the frame decoders accept -/

/-- The row a request frame of function code `fc` and its length is read as (R64 to R72). -/
def requestRow (fc : FunctionCode) (B : Bytes) : Except FrameError Instr :=
  match fc with
  | .manage => .ok (.reqManage (byteAt B 0) (be16 B 2) (be32 B 4) (be16 B 8) (le16 B 10))
  | .command => decodeCommandFrame B
  | .read => .ok (.reqRead (byteAt B 0) (be16 B 2) (byteAt B 4) (le16 B 5))
  | .write => .ok (.reqWrite (byteAt B 0) (be16 B 2) (byteAt B 4) (be32 B 5) (le16 B 9))

/-- The row a response frame of function code `fc` and its length is read as (R81 to R84). -/
def responseRow (fc : FunctionCode) (B : Bytes) : Instr :=
  match fc with
  | .manage => .rspManage (byteAt B 0) (be16 B 2) (be32 B 4) (be16 B 8) (le16 B 10)
  | .command => .rspCommand (byteAt B 0) (parseBody B 2) (le16 B 17)
  | .read => .rspRead (byteAt B 0) (be32 B 2) (byteAt B 6) (parseBody B 7) (le16 B 22)
  | .write => .rspWrite (byteAt B 0) (byteAt B 2) (parseBody B 3) (le16 B 18)

/-- A request frame decodes to a row exactly when its function code and length agree and the row can be read. -/
theorem decodeRequestFrame_ok {B : Bytes} {i : Instr} :
    decodeRequestFrame B = .ok i ↔ ∃ fc, byteAt B 1 = fcCode fc ∧ B.length = reqLen fc ∧ requestRow fc B = .ok i := by
  constructor
  · intro h
    unfold decodeRequestFrame at h
    split at h
    · cases h
    · split at h
      · cases h
      · next fc hfc =>
        split at h
        · cases h
        · next hl => exact ⟨fc, fcOf_eq_some.1 hfc, not_not.1 hl, by cases fc <;> exact h⟩
  · rintro ⟨fc, hfc, hl, hrow⟩
    simp only [decodeRequestFrame, hl, Nat.not_lt.2 (minReq_le fc), hfc, fcOf_fcCode, ne_eq, not_true, if_false]
    cases fc <;> exact hrow

/-- A response frame decodes to a row exactly when its function code and length agree. -/
theorem decodeResponseFrame_ok {B : Bytes} {i : Instr} :
    decodeResponseFrame B = .ok i ↔ ∃ fc, byteAt B 1 = fcCode fc ∧ B.length = rspLen fc ∧ responseRow fc B = i := by
  constructor
  · intro h
    unfold decodeResponseFrame at h
    split at h
    · cases h
    · split at h
      · cases h
      · next fc hfc =>
        split at h
        · cases h
        · next hl => exact ⟨fc, fcOf_eq_some.1 hfc, not_not.1 hl, by cases fc <;> (cases h; rfl)⟩
  · rintro ⟨fc, hfc, hl, rfl⟩
    simp only [decodeResponseFrame, hl, Nat.not_lt.2 (minRsp_le fc), hfc, fcOf_fcCode, ne_eq, not_true, if_false]
    cases fc <;> rfl

/-- The five Command rows of an address, a 32-bit field and a CRC field, each by the sub-code byte that selects it
(R65). -/
inductive CommandRow (addr : Byte) (v : U32) (crc : U16) : Byte → Instr → Prop
  | force : CommandRow addr v crc 0x1C (.reqCmdForce addr v crc)
  | position : CommandRow addr v crc 0x1E (.reqCmdPosition addr v crc)
  | kinematic : CommandRow addr v crc 0x20 (.reqCmdKinematic addr v crc)
  | haptic : CommandRow addr v crc 0x22 (.reqCmdHaptic addr v crc)
  | sleep : CommandRow addr v crc 0x00 (.reqCmdSleep addr v crc)

/-- A Command row is encoded with the sub-code that selects it. -/
theorem CommandRow.encode_eq {addr sc : Byte} {v : U32} {crc : U16} {i : Instr} (h : CommandRow addr v crc sc i) :
    encode i = .requestFrame (reqCommandFrame addr sc v crc) := by
  cases h <;> rfl

/-- A Command frame is read as the row its sub-code byte selects. -/
theorem decodeCommandFrame_ok {B : Bytes} {i : Instr} :
    decodeCommandFrame B = .ok i ↔ CommandRow (byteAt B 0) (be32 B 3) (le16 B 7) (byteAt B 2) i := by
  unfold decodeCommandFrame
  generalize byteAt B 2 = sc
  constructor
  · intro h
    by_cases h1 : sc = 0x1C
    · subst h1; cases h; exact .force
    by_cases h2 : sc = 0x1E
    · subst h2; cases h; exact .position
    by_cases h3 : sc = 0x20
    · subst h3; cases h; exact .kinematic
    by_cases h4 : sc = 0x22
    · subst h4; cases h; exact .haptic
    by_cases h5 : sc = 0x00
    · subst h5; cases h; exact .sleep
    · simp only [h1, h2, h3, h4, h5, if_false, reduceCtorEq] at h
  · intro h
    cases h <;> rfl

/-! ### The fields of a row's frame, read back at the offsets of its table -/

/-- R64, and R81 in the other direction. -/
theorem reqManageFrame_fields (addr : Byte) (s : U16) (r : U32) (d crc : U16) :
    let F := reqManageFrame addr s r d crc
    be16 F 2 = s ∧ be32 F 4 = r ∧ be16 F 8 = d ∧ le16 F 10 = crc :=
  ⟨be16_putBe16 [addr, 0x41] s _, be32_putBe32 ([addr, 0x41] ++ putBe16 s) r _,
    be16_putBe16 ([addr, 0x41] ++ putBe16 s ++ putBe32 r) d _,
    le16_putLe16 ([addr, 0x41] ++ putBe16 s ++ putBe32 r ++ putBe16 d) crc []⟩

/-- R65 to R70. -/
theorem reqCommandFrame_fields (addr sc : Byte) (v : U32) (crc : U16) :
    let F := reqCommandFrame addr sc v crc
    be32 F 3 = v ∧ le16 F 7 = crc :=
  ⟨be32_putBe32 [addr, 0x64, sc] v _, le16_putLe16 ([addr, 0x64, sc] ++ putBe32 v) crc []⟩

/-- R71. -/
theorem reqReadFrame_fields (addr : Byte) (a : U16) (w : Byte) (crc : U16) :
    let F := reqReadFrame addr a w crc
    be16 F 2 = a ∧ le16 F 5 = crc :=
  ⟨be16_putBe16 [addr, 0x68] a _, le16_putLe16 ([addr, 0x68] ++ putBe16 a ++ [w]) crc []⟩

/-- R72. -/
theorem reqWriteFrame_fields (addr : Byte) (a : U16) (w : Byte) (v : U32) (crc : U16) :
    let F := reqWriteFrame addr a w v crc
    be16 F 2 = a ∧ be32 F 5 = v ∧ le16 F 9 = crc :=
  ⟨be16_putBe16 [addr, 0x69] a _, be32_putBe32 ([addr, 0x69] ++ putBe16 a ++ [w]) v _,
    le16_putLe16 ([addr, 0x69] ++ putBe16 a ++ [w] ++ putBe32 v) crc []⟩

/-- R82. -/
theorem rspCommandFrame_fields (addr : Byte) (body : CommandResponse) (crc : U16) :
    let F := rspCommandFrame addr body crc
    parseBody F 2 = body ∧ le16 F 17 = crc :=
  ⟨parseBody_encBody [addr, 0x64] body _, le16_putLe16 ([addr, 0x64] ++ encBody body) crc []⟩

/-- R83. -/
theorem rspReadFrame_fields (addr : Byte) (x : U32) (m : Byte) (body : CommandResponse) (crc : U16) :
    let F := rspReadFrame addr x m body crc
    be32 F 2 = x ∧ byteAt F 6 = m ∧ parseBody F 7 = body ∧ le16 F 22 = crc :=
  ⟨be32_putBe32 [addr, 0x68] x _, rfl, parseBody_encBody ([addr, 0x68] ++ putBe32 x ++ [m]) body _,
    le16_putLe16 ([addr, 0x68] ++ putBe32 x ++ [m] ++ encBody body) crc []⟩

/-- R84. -/
theorem rspWriteFrame_fields (addr m : Byte) (body : CommandResponse) (crc : U16) :
    let F := rspWriteFrame addr m body crc
    byteAt F 2 = m ∧ parseBody F 3 = body ∧ le16 F 18 = crc :=
  ⟨rfl, parseBody_encBody [addr, 0x69, m] body _, le16_putLe16 ([addr, 0x69, m] ++ encBody body) crc []⟩

/-! ### Decoding a row's frame -/

theorem decodeRequestFrame_reqManageFrame (addr : Byte) (s : U16) (r : U32) (d crc : U16) :
    decodeRequestFrame (reqManageFrame addr s r d crc) = .ok (.reqManage addr s r d crc) := by
  obtain ⟨hs, hr, hd, hcrc⟩ := reqManageFrame_fields addr s r d crc
  refine decodeRequestFrame_ok.2 ⟨.manage, rfl, rfl, ?_⟩
  rw [requestRow, hs, hr, hd, hcrc]; rfl

/-- A Command row is read from its own frame. -/
theorem CommandRow.decodeRequestFrame {addr sc : Byte} {v : U32} {crc : U16} {i : Instr}
    (h : CommandRow addr v crc sc i) : decodeRequestFrame (reqCommandFrame addr sc v crc) = .ok i := by
  obtain ⟨hv, hcrc⟩ := reqCommandFrame_fields addr sc v crc
  refine decodeRequestFrame_ok.2 ⟨.command, rfl, rfl, decodeCommandFrame_ok.2 ?_⟩
  rw [hv, hcrc]; exact h

theorem decodeRequestFrame_reqReadFrame (addr : Byte) (a : U16) (w : Byte) (crc : U16) :
    decodeRequestFrame (reqReadFrame addr a w crc) = .ok (.reqRead addr a w crc) := by
  obtain ⟨ha, hcrc⟩ := reqReadFrame_fields addr a w crc
  refine decodeRequestFrame_ok.2 ⟨.read, rfl, rfl, ?_⟩
  rw [requestRow, ha, hcrc]; rfl

theorem decodeRequestFrame_reqWriteFrame (addr : Byte) (a : U16) (w : Byte) (v : U32) (crc : U16) :
    decodeRequestFrame (reqWriteFrame addr a w v crc) = .ok (.reqWrite addr a w v crc) := by
  obtain ⟨ha, hv, hcrc⟩ := reqWriteFrame_fields addr a w v crc
  refine decodeRequestFrame_ok.2 ⟨.write, rfl, rfl, ?_⟩
  rw [requestRow, ha, hv, hcrc]; rfl

theorem decodeResponseFrame_rspManageFrame (addr : Byte) (s : U16) (r : U32) (d crc : U16) :
    decodeResponseFrame (rspManageFrame addr s r d crc) = .ok (.rspManage addr s r d crc) := by
  obtain ⟨hs, hr, hd, hcrc⟩ : let F := rspManageFrame addr s r d crc
    be16 F 2 = s ∧ be32 F 4 = r ∧ be16 F 8 = d ∧ le16 F 10 = crc := reqManageFrame_fields addr s r d crc
  refine decodeResponseFrame_ok.2 ⟨.manage, rfl, rfl, ?_⟩
  rw [responseRow, hs, hr, hd, hcrc]; rfl

theorem decodeResponseFrame_rspCommandFrame (addr : Byte) (body : CommandResponse) (crc : U16) :
    decodeResponseFrame (rspCommandFrame addr body crc) = .ok (.rspCommand addr body crc) := by
  obtain ⟨hbody, hcrc⟩ := rspCommandFrame_fields addr body crc
  refine decodeResponseFrame_ok.2 ⟨.command, rfl, rfl, ?_⟩
  rw [responseRow, hbody, hcrc]; rfl

theorem decodeResponseFrame_rspReadFrame (addr : Byte) (x : U32) (m : Byte) (body : CommandResponse) (crc : U16) :
    decodeResponseFrame (rspReadFrame addr x m body crc) = .ok (.rspRead addr x m body crc) := by
  obtain ⟨hx, hm, hbody, hcrc⟩ := rspReadFrame_fields addr x m body crc
  refine decodeResponseFrame_ok.2 ⟨.read, rfl, rfl, ?_⟩
  rw [responseRow, hx, hm, hbody, hcrc]; rfl

theorem decodeResponseFrame_rspWriteFrame (addr m : Byte) (body : CommandResponse) (crc : U16) :
    decodeResponseFrame (rspWriteFrame addr m body crc) = .ok (.rspWrite addr m body crc) := by
  obtain ⟨hm, hbody, hcrc⟩ := rspWriteFrame_fields addr m body crc
  refine decodeResponseFrame_ok.2 ⟨.write, rfl, rfl, ?_⟩
  rw [responseRow, hm, hbody, hcrc]; rfl

/-! ### Rebuilding a frame from what is read of it -/

/-- A sequence is its bytes. -/
theorem map_byteAt_range {B : Bytes} {n : Nat} (h : B.length = n) : (List.range n).map (byteAt B) = B := by
  subst h
  refine List.ext_getElem (by simp) fun k _ hk => ?_
  rw [List.getElem_map, List.getElem_range, byteAt, List.getD_eq_getElem _ _ hk]

/-- Writing two bytes that were read big-endian gives them back. -/
theorem putBe16_be16 (B : Bytes) (k : Nat) : putBe16 (be16 B k) = [byteAt B k, byteAt B (k + 1)] := by
  rw [putBe16, be16, BitVec.extractLsb'_append_eq_left, BitVec.extractLsb'_append_eq_right]

theorem putLe16_le16 (B : Bytes) (k : Nat) : putLe16 (le16 B k) = [byteAt B k, byteAt B (k + 1)] := by
  rw [putLe16, le16, BitVec.extractLsb'_append_eq_left, BitVec.extractLsb'_append_eq_right]

/-- A 32-bit value is written as its two halves. -/
theorem putBe32_append (h l : U16) : putBe32 (h ++ l) = putBe16 h ++ putBe16 l := by
  rw [putBe32, BitVec.extractLsb'_append_eq_of_le (start := 24) (by decide),
    BitVec.extractLsb'_append_eq_of_le (start := 16) (by decide),
    BitVec.extractLsb'_append_eq_of_add_le (start := 8) (by decide),
    BitVec.extractLsb'_append_eq_of_add_le (start := 0) (by decide)]; rfl

theorem putBe32_be32 (B : Bytes) (k : Nat) :
    putBe32 (be32 B k) = [byteAt B k, byteAt B (k + 1), byteAt B (k + 2), byteAt B (k + 2 + 1)] := by
  rw [be32, putBe32_append, putBe16_be16, putBe16_be16]; rfl

/-- The fifteen bytes a body was parsed from (R80). -/
theorem encBody_parseBody (B : Bytes) (k : Nat) :
    encBody (parseBody B k) = (List.range 15).map fun j => byteAt B (k + j) := by
  simp only [encBody, parseBody, putBe32_be32, putBe16_be16, putLe16_le16]; rfl

/-- A request frame is the frame of the row read from it. -/
theorem encode_requestRow {B : Bytes} {fc : FunctionCode} {i : Instr} (hfc : byteAt B 1 = fcCode fc)
    (hlength : B.length = reqLen fc) (hrow : requestRow fc B = .ok i) : encode i = .requestFrame B := by
  have hbytes := map_byteAt_range hlength
  cases fc with
  | manage =>
    have hcode : byteAt B 1 = 0x41 := hfc
    cases hrow
    refine congrArg Encoded.requestFrame (Eq.trans ?_ hbytes)
    rw [reqManageFrame, putBe16_be16, putBe32_be32, putBe16_be16, putLe16_le16, ← hcode]; rfl
  | command =>
    have hcode : byteAt B 1 = 0x64 := hfc
    refine (decodeCommandFrame_ok.1 hrow).encode_eq.trans (congrArg Encoded.requestFrame (Eq.trans ?_ hbytes))
    rw [reqCommandFrame, putBe32_be32, putLe16_le16, ← hcode]; rfl
  | read =>
    have hcode : byteAt B 1 = 0x68 := hfc
    cases hrow
    refine congrArg Encoded.requestFrame (Eq.trans ?_ hbytes)
    rw [reqReadFrame, putBe16_be16, putLe16_le16, ← hcode]; rfl
  | write =>
    have hcode : byteAt B 1 = 0x69 := hfc
    cases hrow
    refine congrArg Encoded.requestFrame (Eq.trans ?_ hbytes)
    rw [reqWriteFrame, putBe16_be16, putBe32_be32, putLe16_le16, ← hcode]; rfl

/-- A response frame is the frame of the row read from it. -/
theorem encode_responseRow {B : Bytes} {fc : FunctionCode} (hfc : byteAt B 1 = fcCode fc)
    (hlength : B.length = rspLen fc) : encode (responseRow fc B) = .responseFrame B := by
  refine Eq.trans ?_ (congrArg Encoded.responseFrame (map_byteAt_range hlength))
  cases fc with
  | manage =>
    have hcode : byteAt B 1 = 0x41 := hfc
    rw [responseRow, encode, rspManageFrame, putBe16_be16, putBe32_be32, putBe16_be16, putLe16_le16, ← hcode]; rfl
  | command =>
    have hcode : byteAt B 1 = 0x64 := hfc
    rw [responseRow, encode, rspCommandFrame, encBody_parseBody, putLe16_le16, ← hcode]; rfl
  | read =>
    have hcode : byteAt B 1 = 0x68 := hfc
    rw [responseRow, encode, rspReadFrame, putBe32_be32, encBody_parseBody, putLe16_le16, ← hcode]; rfl
  | write =>
    have hcode : byteAt B 1 = 0x69 := hfc
    rw [responseRow, encode, rspWriteFrame, encBody_parseBody, putLe16_le16, ← hcode]; rfl

end Sys2Proof.Machine
end

section
/-! Obligations of 30_encoding.md about decoding and encoding one another, settled from the rules above. -/

namespace Sys2Proof.Machine

/-- The command decoder reads back what its encoder wrote. -/
theorem decode_command {c : HostCommand} {i : Instr} (h : decodeCommand c = .ok i) : decode (.command c) = .ok i := by
  rw [decode, h]; rfl

theorem decode_requestFrame {B : Bytes} {i : Instr} (h : decodeRequestFrame B = .ok i) :
    decode (.requestFrame B) = .ok i := by
  rw [decode, h]; rfl

theorem decode_responseFrame {B : Bytes} {i : Instr} (h : decodeResponseFrame B = .ok i) :
    decode (.responseFrame B) = .ok i := by
  rw [decode, h]; rfl

/-- Settles O38: a command is read back by the equation of its word, and a row by the rule of its frame. -/
theorem decodeOfEncodeIsIdentity : Obligations.DecodeOfEncodeIsIdentity := by
  intro i hi
  cases i with
  | crcInit => exact decode_command (decodeCommand_crcInit rfl)
  | crcUpdate b => exact decode_command (decodeCommand_crcUpdate rfl)
  | encodeReq addr req => exact decode_command (decodeCommand_encodeReq rfl)
  | encodeRsp addr rsp => exact decode_command (decodeCommand_encodeRsp rfl)
  | decodeReq B =>
    exact decode_command ((decodeCommand_decodeReq rfl).trans (withOperand_of_fits (of_decide_eq_true hi) _))
  | decodeRsp B =>
    exact decode_command ((decodeCommand_decodeRsp rfl).trans (withOperand_of_fits (of_decide_eq_true hi) _))
  | respLen req => exact decode_command (decodeCommand_respLen rfl)
  | abort => exact decode_command (decodeCommand_abort rfl)
  | reqManage addr s r d crc => exact decode_requestFrame (decodeRequestFrame_reqManageFrame addr s r d crc)
  | reqCmdForce addr f crc => exact decode_requestFrame CommandRow.force.decodeRequestFrame
  | reqCmdPosition addr p crc => exact decode_requestFrame CommandRow.position.decodeRequestFrame
  | reqCmdKinematic addr z crc => exact decode_requestFrame CommandRow.kinematic.decodeRequestFrame
  | reqCmdHaptic addr h crc => exact decode_requestFrame CommandRow.haptic.decodeRequestFrame
  | reqCmdSleep addr z crc => exact decode_requestFrame CommandRow.sleep.decodeRequestFrame
  | reqRead addr a w crc => exact decode_requestFrame (decodeRequestFrame_reqReadFrame addr a w crc)
  | reqWrite addr a w v crc => exact decode_requestFrame (decodeRequestFrame_reqWriteFrame addr a w v crc)
  | rspManage addr s r d crc => exact decode_responseFrame (decodeResponseFrame_rspManageFrame addr s r d crc)
  | rspCommand addr body crc => exact decode_responseFrame (decodeResponseFrame_rspCommandFrame addr body crc)
  | rspRead addr x m body crc => exact decode_responseFrame (decodeResponseFrame_rspReadFrame addr x m body crc)
  | rspWrite addr m body crc => exact decode_responseFrame (decodeResponseFrame_rspWriteFrame addr m body crc)

/-- Settles O39: the fields of a row, written at their offsets, are all the bytes of the frame. -/
theorem encodeOfDecodedFrameIsIdentity : Obligations.EncodeOfDecodedFrameIsIdentity := by
  refine ⟨fun B i h => ?_, fun B i h => ?_⟩
  · obtain ⟨fc, hfc, hlength, hrow⟩ := decodeRequestFrame_ok.1 h
    exact encode_requestRow hfc hlength hrow
  · obtain ⟨fc, hfc, hlength, rfl⟩ := decodeResponseFrame_ok.1 h
    exact encode_responseRow hfc hlength

/-- Settles O40: each is the evaluation of the decoder on the bytes the spec writes out. -/
theorem specFramesDecode : Obligations.SpecFramesDecode :=
  ⟨by decide, by decide, by decide, by decide, by decide, by decide⟩

end Sys2Proof.Machine
end

section
/-! The round trip of 41_encode.md R132: what the frame decoders read from the frame of an encoded request or response,
and what a context that lets a response through leaves. -/

namespace Sys2Proof.Machine

/-- The fields of an encoded request are parsed back, under either policy: its reserved bytes are zero. -/
theorem parseReq_frame_encReq (policy : ReservedPolicy) (addr : Byte) (req : RequestPDU) :
    parseReq policy (reqFc req) (frame addr (encReq req)) = .ok req := by
  rcases req with ⟨f, r, d⟩ | p | ⟨a, w⟩ | ⟨a, w, v⟩
  · obtain ⟨-, -, -, hf, hr, hd, -⟩ := frame_manage_layout addr (subFunctionCode f) r d
    exact (parseReq_manage hf policy).trans (by rw [hr, hd])
  · cases p with
    | forceControlStream f =>
      obtain ⟨-, -, -, hsc, hf, -⟩ := frame_commandRequest_layout addr 0x1C f
      exact (parseReq_force hsc policy).trans (by rw [hf])
    | positionControlStream p =>
      obtain ⟨-, -, -, hsc, hp, -⟩ := frame_commandRequest_layout addr 0x1E p
      exact (parseReq_position hsc policy).trans (by rw [hp])
    | kinematicDataStream => exact parseReq_kinematic rfl (reservedPasses_of_zero fun _ => rfl)
    | hapticDataStream h =>
      obtain ⟨-, -, -, hsc, hh, -⟩ := frame_commandRequest_layout addr 0x22 h
      exact (parseReq_haptic hsc policy).trans (by rw [hh])
    | sleepDataStream => exact parseReq_sleep rfl (reservedPasses_of_zero fun _ => rfl)
  · obtain ⟨-, -, -, ha, hw, -⟩ := frame_readRequest_layout addr a w
    rw [reqFc, encReq, parseReq, ha, hw]
  · obtain ⟨-, -, -, ha, hw, hv, -⟩ := frame_writeRequest_layout addr a w v
    rw [reqFc, encReq, parseReq, ha, hw, hv]

/-- DECODE_REQ delivers the request a frame was encoded from. -/
theorem exec_decodeReq_frame_encReq (s : State) (addr : Byte) (req : RequestPDU) :
    RequestDelivered s (.decodeReq (frame addr (encReq req))) addr req :=
  exec_decodeReq_delivers (crcValid_frame addr _) ((frame_length addr _).trans (encReq_length req))
    (byteAt_frame_encReq_one addr req) (parseReq_frame_encReq _ addr req)

/-- Byte 1 of a response's frame is the response's function code (R125 to R129). -/
theorem byteAt_frame_encRsp_one (addr : Byte) (rsp : ResponsePDU) :
    byteAt (frame addr (encRsp rsp)) 1 = fcCode (rspFc rsp) := by
  cases rsp <;> rfl

/-- `dec_rsp` reads the response a frame was encoded from, and no encoded Mode is replaced. -/
theorem decRsp_frame_encRsp (addr : Byte) (rsp : ResponsePDU) :
    decRsp (frame addr (encRsp rsp)) = .ok (.rsp addr rsp, false) := by
  cases rsp with
  | manage s r d =>
    obtain ⟨-, -, -, hs, hr, hd, -⟩ := frame_manage_layout addr s r d
    rw [encRsp, decRsp_frame addr (fc := .manage) rfl rfl, parseRsp, hs, hr, hd]
  | command cr =>
    obtain ⟨-, -, -, hbody, -⟩ := frame_commandResponse_layout addr cr
    rw [bodyFields_eq_parseBody] at hbody
    rw [encRsp, decRsp_frame addr (fc := .command) rfl rfl, parseRsp, hbody]
  | read x m cr => exact (decRsp_readResponse addr x (modeCode m) cr).trans (by rw [modeOf_modeCode])
  | write m cr => exact (decRsp_writeResponse addr (modeCode m) cr).trans (by rw [modeOf_modeCode])

/-- An accepted frame that the pending request's context lets through is delivered, and ends the request;
VARIANT_MATCH tells whether the function codes agree (R165 to R168). -/
theorem decodeResponse_admitted {s : State} {B : Bytes} {p : Pending} {adu : DecodedADU} {d : Bool}
    (hd : decRsp B = .ok (adu, d)) (hp : s.pend = some p) (haddr : p.addr = byteAt B 0)
    (hstrict : s.cfg.strictVariant = true → p.fc = byteAt B 1) :
    s.decodeResponse B =
      { s with pend := none, dec := some adu, status := packStatus .ok false ⟨true, true, byteAt B 1 == p.fc, d⟩ } := by
  rw [decodeResponse_pending hd hp]
  rcases checkContext_cases { s with pend := none } p (byteAt B 1 == p.fc) adu d with
    ⟨hne, -⟩ | ⟨-, hvariant, hs, -⟩ | ⟨-, -, h⟩
  · exact absurd ((decRsp_delivers hd).1.trans haddr.symm) hne
  · exact absurd (hstrict hs).symm (beq_eq_false_iff_ne.1 hvariant)
  · exact h

/-- STATUS of a delivery to a context of the response's address, by the two function codes, with every Mode known
(10_state.md R30 to R33). -/
theorem packStatus_delivered_admitted (fc pendingFc : Byte) :
    packStatus .ok false ⟨true, true, fc == pendingFc, false⟩ = if pendingFc = fc then 0x00E0 else 0x0060 := by
  by_cases h : pendingFc = fc
  · rw [if_pos h, h, beq_self_eq_true]; decide
  · rw [if_neg h, beq_false_of_ne (Ne.symm h)]; decide

/-- DECODE_RSP delivers an encoded response to a context that lets it through. -/
theorem exec_decodeRsp_frame_encRsp {s : State} {p : Pending} {addr : Byte} {rsp : ResponsePDU}
    (hp : s.pend = some p) (haddr : p.addr = addr) (hstrict : s.cfg.strictVariant = true → p.fc = fcCode (rspFc rsp)) :
    exec (.decodeRsp (frame addr (encRsp rsp))) s = .next
      { s with
        pend := none
        dec := some (.rsp addr rsp)
        status := if p.fc = fcCode (rspFc rsp) then 0x00E0 else 0x0060 } := by
  have hfc := byteAt_frame_encRsp_one addr rsp
  rw [exec_decodeRsp, decodeResponse_admitted (decRsp_frame_encRsp addr rsp) hp haddr (hfc ▸ hstrict),
    packStatus_delivered_admitted, hfc]

/-- Settles O13: the round trips are the rules above. An encoded response never decodes with a replaced Mode, so no
response encodes to a frame that does; and a request encodes its reserved bytes as zeros. -/
theorem decodeUndoesEncode : Obligations.DecodeUndoesEncode := by
  refine ⟨exec_decodeReq_frame_encReq, fun s addr rsp hp => ?_,
    fun s p addr rsp hp haddr hstrict => exec_decodeRsp_frame_encRsp hp haddr hstrict, ?_, ?_⟩
  · rw [exec_decodeRsp, decodeResponse_idle (decRsp_frame_encRsp addr rsp) hp, packStatus_delivered_idle]; rfl
  · have hunknown : decRsp (frame 1 ([0x69, 9] ++ encBody ⟨12000, 80000, 25, 24, 24150, 0⟩)) =
        .ok (.rsp 1 (.write .sleepMode ⟨12000, 80000, 25, 24, 24150, 0⟩), true) := by
      rw [decRsp_writeResponse, modeOf_unknown (by decide)]
    refine ⟨_, _, _, hunknown, fun h => ?_⟩
    have hknown := decRsp_frame_encRsp 1 (.write .sleepMode ⟨12000, 80000, 25, 24, 24150, 0⟩)
    rw [h, hunknown] at hknown
    cases hknown
  · refine ⟨frame 1 ([0x64, 0x20] ++ putBe32 1), 1, .command .kinematicDataStream,
      decReq_ok.2 ⟨.command, _, rfl, rfl, parseReq_kinematic rfl rfl, by simp, rfl⟩, fun h => ?_⟩
    exact absurd (congrArg (byteAt · 6) h) (by decide)

end Sys2Proof.Machine
end

section
/-! The invariant of the registers (10_state.md sections 2 and 3): kept by every instruction and every
step. -/

namespace Sys2Proof.Machine

/-! ### Each register by itself -/

/-- `txLegal`, `pendLegal` and `lenLegal` each speak of one register. -/
theorem State.txLegal_of_eq {s t : State} (h : t.tx = s.tx) (hs : s.txLegal) : t.txLegal := by
  rw [txLegal, h]; exact hs

theorem State.pendLegal_of_eq {s t : State} (h : t.pend = s.pend) (hs : s.pendLegal) : t.pendLegal := by
  rw [pendLegal, h]; exact hs

theorem State.lenLegal_of_eq {s t : State} (h : t.len = s.len) (hs : s.lenLegal) : t.lenLegal := by
  rw [lenLegal, h]; exact hs

theorem State.pendLegal_of_none {s : State} (h : s.pend = none) : s.pendLegal := fun p hp => by rw [h] at hp; cases hp

/-- A built frame of either direction is a legal TX (R24). -/
theorem State.txLegal_of_encReq {s : State} {addr : Byte} {req : RequestPDU} (h : s.tx = frame addr (encReq req)) :
    s.txLegal := by
  have hlength : reqLen (reqFc req) ∈ producedLengths := by cases reqFc req <;> decide
  exact .inr ⟨by rwa [h, frame_length, encReq_length], h ▸ crcValid_frame addr _⟩

theorem State.txLegal_of_encRsp {s : State} {addr : Byte} {rsp : ResponsePDU} (h : s.tx = frame addr (encRsp rsp)) :
    s.txLegal := by
  have hlength : rspLen (rspFc rsp) ∈ producedLengths := by cases rspFc rsp <;> decide
  exact .inr ⟨by rwa [h, frame_length, encRsp_length], h ▸ crcValid_frame addr _⟩

/-- A looked-up length is a legal LEN (R26). -/
theorem State.lenLegal_of_lookup {s : State} {req : RequestPDU} (h : s.len = BitVec.ofNat 8 (expectedResponseLen req)) :
    s.lenLegal := by
  rw [lenLegal, h, expectedResponseLen]
  cases reqFc req <;> decide

/-! ### STATUS -/

/-- A STATUS without flags of DECODE_RSP is legal with any DEC and PEND it mirrors. -/
theorem State.ReportedPlain.statusLegal {s : State} (h : s.ReportedPlain) : StatusLegal s := by
  obtain ⟨hpending, hresult, hreserved⟩ := h.reported.wellFormed
  obtain ⟨hctx, haddr, hvariant, hdefaulted⟩ := h.flags_clear
  exact ⟨hpending, hresult, hreserved, by simp [hctx], by simp [haddr], by simp [hvariant], by simp [hvariant],
    by simp [hdefaulted]⟩

/-- A Read or Write response in SleepMode: what is delivered with a replaced Mode (R33). -/
def deliversSleepMode (adu : DecodedADU) : Prop :=
  ∃ addr body, (∃ x, adu = .rsp addr (.read x .sleepMode body)) ∨ adu = .rsp addr (.write .sleepMode body)

/-- A Mode byte is replaced by SleepMode only (R79). -/
theorem modeOf_sleepMode_of_defaulted {m : Byte} (h : (modeOf m).2 = true) : (modeOf m).1 = .sleepMode := by
  rw [modeOf_unknown (modeOf_defaulted_iff.1 h)]

/-- `dec_rsp` sets `defaulted` only with a Read or Write response in SleepMode (R162, R163). -/
theorem decRsp_defaulted {B : Bytes} {adu : DecodedADU} (h : decRsp B = .ok (adu, true)) : deliversSleepMode adu := by
  obtain ⟨fc, -, -, -, hr⟩ := decRsp_ok.1 h
  obtain ⟨rfl, hd⟩ := Prod.mk.inj hr
  cases fc with
  | manage => cases hd
  | command => cases hd
  | read => exact ⟨_, _, .inl ⟨_, by rw [parseRsp, modeOf_sleepMode_of_defaulted hd.symm]⟩⟩
  | write => exact ⟨_, _, .inr (by rw [parseRsp, modeOf_sleepMode_of_defaulted hd.symm])⟩

/-- The report of a rejection is legal once the context is closed, with no more than CTX and ADDR_MATCH set. -/
theorem statusLegal_rejectResponse {s : State} (hp : s.pend = none) (r : ResultCode) {ctx am : Bool}
    (ham : am = true → ctx = true) : StatusLegal (s.rejectResponse r ⟨ctx, am, false, false⟩) := by
  obtain ⟨hpending, hresult, hreserved⟩ := (s.rejectResponse_reported r ⟨ctx, am, false, false⟩).wellFormed
  exact ⟨hpending, hresult, hreserved, fun _ => hp, by simpa using ham, by simp, by simp, by simp⟩

/-- The report of a delivery is legal once the context is closed, if its flags stand in the order of R30 to
R33. -/
theorem statusLegal_delivered {s : State} (hp : s.pend = none) {adu : DecodedADU} {f : RspFlags}
    (ham : f.addrMatch = true → f.ctx = true) (hvm : f.variantMatch = true → f.addrMatch = true)
    (hmd : f.modeDefaulted = true → deliversSleepMode adu) :
    StatusLegal ({ s with dec := some adu }.report .ok f) := by
  obtain ⟨hpending, hresult, hreserved⟩ := ({ s with dec := some adu }.report_reported .ok f).wellFormed
  refine ⟨hpending, hresult, hreserved, fun _ => hp, by simpa using ham, by simpa using hvm, by simp, fun h => ?_⟩
  obtain ⟨addr, body, hadu⟩ := hmd (by simpa using h)
  exact ⟨by simp, addr, body, by simpa using hadu⟩

/-- DECODE_RSP leaves a legal STATUS, however it ends (R167). -/
theorem decodeResponse_statusLegal (s : State) (B : Bytes) : StatusLegal (s.decodeResponse B) := by
  rcases decodeResponse_cases s B with ⟨c, -, h⟩ | ⟨adu, d, hd, -, h⟩ | ⟨adu, d, p, hd, -, h⟩
  · rw [h]; exact statusLegal_rejectResponse rfl c nofun
  · rw [h]; exact statusLegal_delivered (s := { s with pend := none }) rfl nofun nofun
      fun (hdef : d = true) => decRsp_defaulted (hdef ▸ hd)
  · rw [h]
    rcases checkContext_cases { s with pend := none } p (byteAt B 1 == p.fc) adu d with
      ⟨-, h'⟩ | ⟨-, -, -, h'⟩ | ⟨-, -, h'⟩
    · rw [h']; exact statusLegal_rejectResponse rfl _ nofun
    · rw [h']; exact statusLegal_rejectResponse rfl _ fun _ => rfl
    · rw [h']; exact statusLegal_delivered (s := { s with pend := none }) rfl (fun _ => rfl) (fun _ => rfl)
        fun (hdef : d = true) => decRsp_defaulted (hdef ▸ hd)

/-! ### Instructions and steps -/

/-- An instruction that decodes no response keeps TX, PEND and LEN legal (R23, R24, R26). -/
theorem exec_keeps_registers {i : Instr} {s t : State} (hs : s.Inv) (hi : i.decodesResponse = false)
    (h : exec i s = .next t) : t.txLegal ∧ t.pendLegal ∧ t.lenLegal := by
  obtain ⟨htx, hpend, hlen, -⟩ := hs
  rcases instr_kinds i with hk | hk | rfl | ⟨b, rfl⟩ | ⟨a, req, rfl⟩ | ⟨a, rsp, rfl⟩ | ⟨req, rfl⟩ | rfl
  · rw [hi] at hk; cases hk
  · obtain ⟨B, hB⟩ := exec_of_decodesRequest hk
    rw [hB] at h; cases h
    obtain ⟨-, htx', hlen', -, -, hpend'⟩ := decodeRequest_frame s B
    exact ⟨State.txLegal_of_eq htx' htx, State.pendLegal_of_eq hpend' hpend, State.lenLegal_of_eq hlen' hlen⟩
  · cases h; exact ⟨htx, hpend, hlen⟩
  · cases h; exact ⟨htx, hpend, hlen⟩
  · cases hp : s.pend with
    | none =>
      rw [exec_encodeReq_idle hp] at h; cases h
      refine ⟨State.txLegal_of_encReq rfl, fun p hp => ?_, hlen⟩
      cases hp
      exact ⟨reqFc req, rfl, rfl⟩
    | some p => rw [exec_encodeReq_busy hp] at h; cases h; exact ⟨htx, hpend, hlen⟩
  · cases h; exact ⟨State.txLegal_of_encRsp rfl, hpend, hlen⟩
  · cases h; exact ⟨htx, hpend, State.lenLegal_of_lookup rfl⟩
  · cases h; exact ⟨htx, State.pendLegal_of_none rfl, hlen⟩

/-- Every instruction keeps the invariant. -/
theorem exec_keeps_inv {i : Instr} {s t : State} (hs : s.Inv) (h : exec i s = .next t) : t.Inv := by
  cases hi : i.decodesResponse with
  | false =>
    obtain ⟨htx, hpend, hlen⟩ := exec_keeps_registers hs hi h
    obtain ⟨t', ht', hplain, -⟩ := exec_reportedPlain hi s
    rw [ht'] at h; cases h
    exact ⟨htx, hpend, hlen, hplain.statusLegal⟩
  | true =>
    obtain ⟨B, hB⟩ := exec_of_decodesResponse hi
    rw [hB] at h; cases h
    obtain ⟨-, htx, hlen, -, -, hpend⟩ := decodeResponse_frame s B
    exact ⟨State.txLegal_of_eq htx hs.tx, State.pendLegal_of_none hpend, State.lenLegal_of_eq hlen hs.len,
      decodeResponse_statusLegal s B⟩

/-- A host command that completes keeps it: an illegal word writes a legal STATUS and nothing else (R174). -/
theorem runCommand_keeps_inv {c : HostCommand} {s t : State} (hs : s.Inv) (h : runCommand c s = .next t) : t.Inv := by
  rcases runCommand_cases h with ⟨i, -, hi⟩ | ⟨-, rfl⟩
  · exact exec_keeps_inv hs hi
  · exact ⟨hs.tx, hs.pend, hs.len, s.illegalCommand_reportedPlain.statusLegal⟩

/-- The invariant says nothing of the host's events. -/
theorem State.Inv.with_port {s : State} (hs : s.Inv) (rest : List HostEvent) : { s with port := rest }.Inv := by
  obtain ⟨hpending, hresult, hreserved, hctx, haddr, hvariant, hdelivers, hdefaulted⟩ := hs.status
  exact ⟨hs.tx, hs.pend, hs.len, ⟨hpending, hresult, hreserved, hctx, haddr, hvariant, hdelivers, hdefaulted⟩⟩

/-- The registers' reset values satisfy the invariant, whatever the parameters and the port hold. -/
theorem State.hostReset_inv (s : State) : s.hostReset.Inv := by
  have hplain : s.hostReset.ReportedPlain := ⟨.ok, plainStatus_ok_idle.symm⟩
  have hlen : (0 : Byte) ∈ ([0, 12, 19, 20, 24] : List Byte) := by decide
  exact ⟨.inl rfl, State.pendLegal_of_none rfl, hlen, hplain.statusLegal⟩

/-- All a step can find at the port: nothing, a reset, or a command it runs (10_state.md R20). -/
theorem step_cases (s : State) :
    (s.port = [] ∧ step s = .next s) ∨
    (∃ rest, s.port = .reset :: rest ∧ step s = .next { s with port := rest }.hostReset) ∨
    (∃ c rest, s.port = .command c :: rest ∧ step s = runCommand c { s with port := rest }) := by
  rcases hport : s.port with _ | ⟨c | _, rest⟩
  · exact .inl ⟨rfl, by simp [step, State.nextEvent, hport]⟩
  · exact .inr (.inr ⟨c, rest, rfl, step_command hport⟩)
  · exact .inr (.inl ⟨rest, rfl, by simp [step, State.nextEvent, hport]⟩)

/-- Settles O41: nothing changes at an idle port, a reset establishes the invariant, and every command keeps it. -/
theorem everyStepKeepsTheInvariant : Obligations.EveryStepKeepsTheInvariant := by
  intro s s' hs h
  rcases step_cases s with ⟨-, hstep⟩ | ⟨rest, -, hstep⟩ | ⟨c, rest, -, hstep⟩
  · rw [hstep] at h; cases h
    exact hs
  · rw [hstep] at h; cases h
    exact State.hostReset_inv _
  · exact runCommand_keeps_inv (hs.with_port rest) (hstep ▸ h)

/-- Settles O42: the reset state is what a host reset of it gives. -/
theorem invariantHoldsAtReset : Obligations.InvariantHoldsAtReset := State.hostReset_inv State.reset

end Sys2Proof.Machine
end

section
/-! The laws of the CRC function (40_crc.md R100 to R102): one turn of its loop, the step of one byte, a sequence, and
the CRC field of a frame. -/

namespace Sys2Proof.Machine

/-! ### One turn of the loop (R100) -/

/-- The bit a turn shifts out comes back as the top bit of 0xA001. -/
theorem crc16Shift_msb (c : U16) : (crc16Shift c).msb = c.getLsbD 0 := by
  have htop : (0xA001#16).msb = true := by decide
  unfold crc16Shift
  split
  · next h => simp [BitVec.msb_ushiftRight, htop, h]
  · next h => simpa [BitVec.msb_ushiftRight] using h

/-- So a turn can be undone. -/
theorem crc16Shift_injective : Function.Injective crc16Shift := by
  intro c d h
  have hlow : c.getLsbD 0 = d.getLsbD 0 := by rw [← crc16Shift_msb, h, crc16Shift_msb]
  have hshift : c >>> 1 = d >>> 1 := by
    unfold crc16Shift at h
    rw [hlow] at h
    split at h
    · exact (BitVec.xor_left_inj _).1 h
    · exact h
  refine BitVec.eq_of_getLsbD_eq fun k _ => ?_
  cases k with
  | zero => exact hlow
  | succ k => simpa [Nat.add_comm 1 k] using congrArg (·.getLsbD k) hshift

theorem crc16Shifts_injective (n : Nat) : Function.Injective (crc16Shifts n) := by
  induction n with
  | zero => exact Function.injective_id
  | succ n ih => exact ih.comp crc16Shift_injective

/-- Turns that find a 0 each time only shift. -/
theorem crc16Shifts_of_low_zero {n : Nat} {c : U16} (h : ∀ k < n, c.getLsbD k = false) : crc16Shifts n c = c >>> n := by
  induction n generalizing c with
  | zero => simp [crc16Shifts]
  | succ n ih =>
    have hturn : crc16Shift c = c >>> 1 := if_neg (Bool.eq_false_iff.1 (h 0 n.succ_pos))
    have hnext : ∀ k < n, (c >>> 1).getLsbD k = false := fun k hk => by
      rw [BitVec.getLsbD_ushiftRight, h (1 + k) (by omega)]
    rw [crc16Shifts, hturn, ih hnext, ← BitVec.shiftRight_add, Nat.add_comm]

/-! ### One byte (R100, R101) -/

theorem crc16Step_injective_crc (b : Byte) : Function.Injective fun c => crc16Step c b := fun _ _ h =>
  (BitVec.xor_left_inj _).1 (crc16Shifts_injective 8 h)

theorem crc16Step_injective_byte (c : U16) : Function.Injective (crc16Step c) := by
  intro b b' h
  have hwide : b.setWidth 16 = b'.setWidth 16 := (BitVec.xor_right_inj _).1 (crc16Shifts_injective 8 h)
  simpa using congrArg (BitVec.setWidth 8) hwide

/-- Folding in a CRC's own low byte leaves its high byte. -/
theorem crc16Step_low_byte (c : U16) : crc16Step c (c.extractLsb' 0 8) = c >>> 8 := by
  have hlow : ∀ k < 8, (c ^^^ (c.extractLsb' 0 8).setWidth 16).getLsbD k = false := fun k hk => by
    have hwide : k < 16 := by omega
    simp [hk, hwide]
  rw [crc16Step, crc16Shifts_of_low_zero hlow]
  exact BitVec.eq_of_getLsbD_eq fun k _ => by simp

/-- Folding a byte into itself leaves nothing. -/
theorem crc16Step_self (b : Byte) : crc16Step (b.setWidth 16) b = 0 := by
  rw [crc16Step, BitVec.xor_self]; decide

theorem ushiftRight_eight (c : U16) : c >>> 8 = (c.extractLsb' 8 8).setWidth 16 := by
  refine BitVec.eq_of_getLsbD_eq fun k hk => ?_
  by_cases hbyte : k < 8
  · simp [hk, hbyte]
  · have hout : 16 ≤ 8 + k := by omega
    simp [hbyte, hout]

/-! ### A sequence (R101) -/

theorem crc16_concat (A : Bytes) (b : Byte) : crc16 (A ++ [b]) = crc16Step (crc16 A) b := crc16_append A [b]

theorem foldl_crc16Step_injective (B : Bytes) : Function.Injective fun c => B.foldl crc16Step c := by
  induction B with
  | nil => exact Function.injective_id
  | cons b B ih => exact ih.comp (crc16Step_injective_crc b)

/-- Two sequences that differ in one byte have different CRCs. -/
theorem crc16_ne_of_one_byte (A C : Bytes) {b b' : Byte} (h : b ≠ b') : crc16 (A ++ b :: C) ≠ crc16 (A ++ b' :: C) := by
  intro heq
  rw [crc16_append, crc16_append] at heq
  exact h (crc16Step_injective_byte _ (foldl_crc16Step_injective C heq))

/-- A sequence with one byte replaced by another. -/
theorem crc16_set_ne {B : Bytes} {n : Nat} {b : Byte} (hn : n < B.length) (hb : b ≠ byteAt B n) :
    crc16 (B.set n b) ≠ crc16 B := by
  have hB : B.take n ++ byteAt B n :: B.drop (n + 1) = B := by
    rw [byteAt, List.getD_eq_getElem _ _ hn, ← List.drop_eq_getElem_cons hn, List.take_append_drop]
  have hne := crc16_ne_of_one_byte (B.take n) (B.drop (n + 1)) hb
  rwa [hB, ← (List.set_eq_take_append_cons_drop.trans (if_pos hn))] at hne

/-- A sequence followed by its own CRC, low byte first, leaves residue 0 (93_implementation_defined.md I16). -/
theorem crc16_residue (B : Bytes) : crc16 (B ++ putLe16 (crc16 B)) = 0 := by
  rw [crc16_append]
  generalize crc16 B = c
  rw [putLe16, List.foldl_cons, crc16Step_low_byte, ushiftRight_eight, List.foldl_cons, crc16Step_self, List.foldl_nil]

/-! ### The CRC field of a frame (R102) -/

theorem crcCovered_append (A : Bytes) (crc : U16) : crcCovered (A ++ putLe16 crc) = A := by
  simp [crcCovered]

theorem crcField_append (A : Bytes) (crc : U16) : crcField (A ++ putLe16 crc) = crc := by
  simpa [crcField] using le16_putLe16 A crc []

/-- A frame built with some CRC field is CRC-valid exactly when that field is the CRC of the bytes before it. -/
theorem crcValid_append_iff {A : Bytes} {crc : U16} : crcValid (A ++ putLe16 crc) = true ↔ crc = crc16 A := by
  simp [crcValid, crcCovered_append, crcField_append]

/-- A frame is the bytes its CRC covers and its CRC field. -/
theorem crcCovered_append_field {B : Bytes} (h : 2 ≤ B.length) : crcCovered B ++ putLe16 (crcField B) = B := by
  have hdrop : B.drop (B.length - 2) = putLe16 (crcField B) := by
    obtain ⟨n, hn⟩ := Nat.exists_eq_add_of_le' h
    have h0 : n < B.length := by omega
    have h1 : n + 1 < B.length := by omega
    rw [crcField, putLe16_le16, hn, Nat.add_sub_cancel, List.drop_eq_getElem_cons h0, List.drop_eq_getElem_cons h1,
      List.drop_eq_nil_of_le (by omega), byteAt, byteAt, List.getD_eq_getElem _ _ h0, List.getD_eq_getElem _ _ h1]
  rw [crcCovered, ← hdrop, List.take_append_drop]

theorem byteAt_crcCovered {B : Bytes} {n : Nat} (hn : n < B.length - 2) : byteAt (crcCovered B) n = byteAt B n := by
  simpa [crcCovered] using byteAt_take_drop B 0 hn

/-- What makes a sequence CRC-valid. -/
theorem crcValid_iff_field {B : Bytes} : crcValid B = true ↔ 2 ≤ B.length ∧ crcField B = crc16 (crcCovered B) := by
  simp [crcValid]

/-! ### A flipped bit (R101, 42_decode.md R169) -/

@[simp] theorem flipBit_length (B : Bytes) (k : Nat) : (flipBit B k).length = B.length := by simp [flipBit]

theorem byteAt_flipBit_of_ne {B : Bytes} {k n : Nat} (h : n ≠ k / 8) : byteAt (flipBit B k) n = byteAt B n := by
  simp [byteAt, flipBit, List.getD_eq_getElem?_getD, List.getElem?_set_ne h.symm]

/-- The byte a flip writes is another. -/
theorem xor_bit_ne (b : Byte) (k : Nat) : b ^^^ (1#8 <<< (k % 8)) ≠ b := by
  intro h
  have hbit : k % 8 < 8 := Nat.mod_lt _ (by decide)
  simpa [hbit] using congrArg (·.getLsbD (k % 8)) h

theorem byteAt_flipBit_ne {B : Bytes} {k : Nat} (h : k / 8 < B.length) :
    byteAt (flipBit B k) (k / 8) ≠ byteAt B (k / 8) := by
  have hset : byteAt (flipBit B k) (k / 8) = byteAt B (k / 8) ^^^ (1#8 <<< (k % 8)) := by
    simp [byteAt, flipBit, List.getD_eq_getElem?_getD, h]
  exact hset ▸ xor_bit_ne _ k

/-- A flip before the CRC field changes the CRC of what the field covers, and leaves the field. -/
theorem crcValid_flipBit_covered {B : Bytes} {k : Nat} (hvalid : crcValid B = true) (hk : k / 8 < B.length - 2) :
    crcValid (flipBit B k) = false := by
  obtain ⟨htwo, hfield⟩ := crcValid_iff_field.1 hvalid
  have hfield' : crcField (flipBit B k) = crcField B := by
    rw [crcField, crcField, flipBit_length, le16, le16, byteAt_flipBit_of_ne (by omega),
      byteAt_flipBit_of_ne (by omega)]
  have hcovered : crcCovered (flipBit B k) = (crcCovered B).set (k / 8) (byteAt B (k / 8) ^^^ (1#8 <<< (k % 8))) := by
    rw [crcCovered, flipBit_length, flipBit, List.take_set, crcCovered]
  have hinside : k / 8 < (crcCovered B).length := by rw [crcCovered, List.length_take]; omega
  have hbyte : byteAt B (k / 8) ^^^ (1#8 <<< (k % 8)) ≠ byteAt (crcCovered B) (k / 8) := by
    rw [byteAt_crcCovered hk]; exact xor_bit_ne _ k
  refine Bool.eq_false_iff.2 fun hvalid' => crc16_set_ne hinside hbyte ?_
  rw [← hcovered, ← (crcValid_iff_field.1 hvalid').2, hfield', hfield]

/-- A flip in the CRC field leaves the CRC of what it covers. -/
theorem crcValid_flipBit_field {B : Bytes} {k : Nat} (hvalid : crcValid B = true) (hk : B.length - 2 ≤ k / 8)
    (hlength : k / 8 < B.length) : crcValid (flipBit B k) = false := by
  obtain ⟨htwo, hfield⟩ := crcValid_iff_field.1 hvalid
  have hcovered : crcCovered (flipBit B k) = crcCovered B := by
    rw [crcCovered, flipBit_length, flipBit, List.take_set_of_le hk, crcCovered]
  refine Bool.eq_false_iff.2 fun hvalid' => byteAt_flipBit_ne hlength ?_
  have hbytes : putLe16 (crcField (flipBit B k)) = putLe16 (crcField B) := by
    rw [(crcValid_iff_field.1 hvalid').2, hcovered, hfield]
  rw [crcField, crcField, flipBit_length, putLe16_le16, putLe16_le16, List.cons.injEq, List.cons.injEq] at hbytes
  obtain ⟨hlow, hhigh, -⟩ := hbytes
  obtain hat | hat : k / 8 = B.length - 2 ∨ k / 8 = B.length - 2 + 1 := by omega
  · rwa [hat]
  · rwa [hat]

/-- No CRC-valid frame is CRC-valid with a bit flipped. -/
theorem crcValid_flipBit {B : Bytes} {k : Nat} (hvalid : crcValid B = true) (hk : k / 8 < B.length) :
    crcValid (flipBit B k) = false := by
  by_cases hcovered : k / 8 < B.length - 2
  · exact crcValid_flipBit_covered hvalid hcovered
  · exact crcValid_flipBit_field hvalid (Nat.not_lt.1 hcovered) hk

end Sys2Proof.Machine
end

section
/-! Obligations of 40_crc.md, settled from the laws above and the rules of CRC_INIT and CRC_UPDATE. -/

namespace Sys2Proof.Machine

/-- CRC_UPDATE writes CRC and STATUS (R104). -/
theorem exec_crcUpdate_frame (s : State) (b : Byte) :
    exec (.crcUpdate b) s = .next { s with crc := crc16Step s.crc b, status := plainStatus .ok s.pend } := by
  rw [exec_crcUpdate, State.finish_eq]

/-- CRC_UPDATEs after a success fold their bytes into CRC. -/
theorem execAll_crcUpdates (s : State) (c : U16) (B : Bytes) :
    execAll (B.map .crcUpdate) { s with crc := c, status := plainStatus .ok s.pend } =
      .next { s with crc := B.foldl crc16Step c, status := plainStatus .ok s.pend } := by
  induction B generalizing c with
  | nil => rfl
  | cons b B ih => rw [List.map_cons, execAll_cons_of_next (exec_crcUpdate_frame _ b)]; exact ih _

/-- After CRC_INIT they leave `crc16` of the bytes (R101 item 2). -/
theorem execAll_crcInit_updates (s : State) (B : Bytes) :
    execAll (.crcInit :: B.map .crcUpdate) s = .next { s with crc := crc16 B, status := plainStatus .ok s.pend } := by
  rw [execAll_cons_of_next (exec_crcInit_frame s)]
  exact execAll_crcUpdates s 0xFFFF B

/-- Settles O2: each CRC_UPDATE is one step of the fold that `crc16` is. -/
theorem crcUpdateFoldsBytes : Obligations.CrcUpdateFoldsBytes :=
  ⟨fun _ => decodeCommand_crcUpdate, exec_crcUpdate_frame, execAll_crcInit_updates, by decide, by decide, by decide⟩

/-- Settles O4: the step is injective in the CRC and in the byte, and a sequence is a fold of steps. -/
theorem crc16Laws : Obligations.Crc16Laws :=
  ⟨rfl, crc16_concat, fun b => Finite.injective_iff_bijective.1 (crc16Step_injective_crc b), crc16Step_injective_byte,
    fun A C _ _ h => crc16_ne_of_one_byte A C h, fun _ _ => crcValid_flipBit_covered⟩

/-- Reversed, a shift right is a shift left. -/
theorem reverse_ushiftRight_one (c : U16) : (c >>> 1).reverse = c.reverse <<< 1 := by
  refine BitVec.eq_of_getLsbD_eq fun k hk => ?_
  simp only [BitVec.getLsbD_reverse, BitVec.getLsbD_shiftLeft, BitVec.getMsbD_ushiftRight, hk, decide_true,
    Bool.true_and]

theorem reverse_xor (a b : U16) : (a ^^^ b).reverse = a.reverse ^^^ b.reverse :=
  BitVec.eq_of_getLsbD_eq fun k _ => by simp [BitVec.getLsbD_reverse]

/-- Settles O5: reversed, the bit shifted out at the bottom leaves at the top, and 0xA001 is 0x8005. -/
theorem crcShiftReflectsPolynomial : Obligations.CrcShiftReflectsPolynomial := by
  intro c
  have hpoly : BitVec.reverse (0xA001 : U16) = 0x8005#16 := by decide
  rw [BitVec.msb_reverse, crc16Shift]
  split
  · rw [reverse_xor, reverse_ushiftRight_one, hpoly]
  · exact reverse_ushiftRight_one c

/-- Settles O6: a CRC-valid frame is what its CRC covers, followed by that CRC, low byte first. -/
theorem validFramesHaveZeroResidue : Obligations.ValidFramesHaveZeroResidue := by
  refine ⟨fun P => crcValid_append_iff.2 rfl, fun F => crcValid_iff_field, fun F hF => ?_⟩
  obtain ⟨htwo, hfield⟩ := crcValid_iff_field.1 hF
  rw [← crcCovered_append_field htwo, hfield, crc16_residue]

/-- Settles O7: the generator is fed the bytes the CRC field covers. -/
theorem generatorAgreesWithFrames : Obligations.GeneratorAgreesWithFrames := by
  intro s hlegal hne
  obtain ⟨-, hvalid⟩ := hlegal.resolve_left hne
  exact ⟨_, execAll_crcInit_updates s _, (crcValid_iff_field.1 hvalid).2.symm, rfl⟩

end Sys2Proof.Machine
end

section
/-! What the host issues is what the step runs: commands, rows by their frames, and table words (10_state.md R20;
42_decode.md R140, R157, R167; log entries 4 to 6). -/

namespace Sys2Proof.Machine

/-- A command that decodes is run as its instruction. -/
theorem runCommand_of_decode {c : HostCommand} {i : Instr} (h : decodeCommand c = .ok i) (s : State) :
    runCommand c s = exec i s := by
  simp only [runCommand, h]

/-- A request row means what DECODE_REQ does with its frame. -/
theorem exec_of_encode_request {i : Instr} {B : Bytes} (h : encode i = .requestFrame B) (s : State) :
    exec i s = exec (.decodeReq B) s := by
  cases i with
  | reqManage | reqCmdForce | reqCmdPosition | reqCmdKinematic | reqCmdHaptic | reqCmdSleep | reqRead | reqWrite =>
    cases h; rfl
  | crcInit | crcUpdate | encodeReq | encodeRsp | decodeReq | decodeRsp | respLen | abort | rspManage | rspCommand
  | rspRead | rspWrite => cases h

/-- A response row means what DECODE_RSP does with its frame. -/
theorem exec_of_encode_response {i : Instr} {B : Bytes} (h : encode i = .responseFrame B) (s : State) :
    exec i s = exec (.decodeRsp B) s := by
  cases i with
  | rspManage | rspCommand | rspRead | rspWrite => cases h; rfl
  | crcInit | crcUpdate | encodeReq | encodeRsp | decodeReq | decodeRsp | respLen | abort | reqManage | reqCmdForce
  | reqCmdPosition | reqCmdKinematic | reqCmdHaptic | reqCmdSleep | reqRead | reqWrite => cases h

/-- Settles O37: the row read from a frame is encoded as that frame. -/
theorem decodeCommandsRunTheirFramesRow : Obligations.DecodeCommandsRunTheirFramesRow :=
  ⟨fun s B i h => (exec_of_encode_request (encodeOfDecodedFrameIsIdentity.1 B i h) s).symm,
    fun s B i h => (exec_of_encode_response (encodeOfDecodedFrameIsIdentity.2 B i h) s).symm⟩

/-- A frame that decodes to a row fits the interface (R85, 20_memory.md R41). -/
theorem length_le_of_decodeRequestFrame {B : Bytes} {i : Instr} (h : decodeRequestFrame B = .ok i) :
    B.length ≤ 255 := by
  obtain ⟨fc, -, hlength, -⟩ := decodeRequestFrame_ok.1 h
  rw [hlength]
  cases fc <;> decide

/-- The same for responses. -/
theorem length_le_of_decodeResponseFrame {B : Bytes} {i : Instr} (h : decodeResponseFrame B = .ok i) :
    B.length ≤ 255 := by
  obtain ⟨fc, -, hlength, -⟩ := decodeResponseFrame_ok.1 h
  rw [hlength]
  cases fc <;> decide

/-- Only `.ok` is mapped to `.ok`. -/
theorem ok_of_mapError_ok {ε ε' α : Type} {f : ε → ε'} {r : Except ε α} {a : α} (h : r.mapError f = .ok a) :
    r = .ok a := by
  cases r <;> cases h; rfl

/-- The command that gives the block an encoded instruction runs that instruction. -/
theorem runCommand_issue {e : Encoded} {i : Instr} (h : decode e = .ok i) (s : State) :
    runCommand e.issue s = exec i s := by
  cases e with
  | command c => exact runCommand_of_decode (ok_of_mapError_ok h) s
  | requestFrame B =>
    have hB := ok_of_mapError_ok h
    have hfits := withOperand_of_fits (length_le_of_decodeRequestFrame hB) .decodeReq
    exact (runCommand_of_decode ((decodeCommand_decodeReq rfl).trans hfits) s).trans
      (decodeCommandsRunTheirFramesRow.1 s B i hB)
  | responseFrame B =>
    have hB := ok_of_mapError_ok h
    have hfits := withOperand_of_fits (length_le_of_decodeResponseFrame hB) .decodeRsp
    exact (runCommand_of_decode ((decodeCommand_decodeRsp rfl).trans hfits) s).trans
      (decodeCommandsRunTheirFramesRow.2 s B i hB)

/-- Settles O33: a step runs the command at the head of the port. -/
theorem stepRunsTheDecodedCommand : Obligations.StepRunsTheDecodedCommand := fun _ _ _ _ hport hc =>
  (step_command hport).trans (runCommand_of_decode hc _)

/-- Settles O34: nothing is run at an empty port, and a reset is the host's. -/
theorem idleAndResetSteps : Obligations.IdleAndResetSteps := by
  refine ⟨fun s hport => ?_, fun s rest hport => ?_⟩
  · simp only [step, State.nextEvent, hport]
  · simp only [step, State.nextEvent, hport]; rfl

/-- Settles O36: a word's encoded form is issued as the command that runs the instruction it decodes to. -/
theorem tableWordsAreFetchedAndRun : Obligations.TableWordsAreFetchedAndRun := by
  intro s nbits w i h
  have hdecode : decode (tableWord nbits w) = .ok i := by
    unfold decodeTableWord at h
    cases hd : decode (tableWord nbits w) with
    | ok j => rw [hd] at h; cases h; rfl
    | error e => rw [hd] at h; cases h
  exact (step_command (State.issue_port s _)).trans (runCommand_issue hdecode s)

/-- An operand is rejected exactly when it is too long. -/
theorem withOperand_tooLong_iff {B : Bytes} {f : Bytes → Instr} :
    withOperand B f = .error .operandTooLong ↔ 255 < B.length := by
  by_cases h : B.length ≤ 255
  · simp [withOperand_of_fits h, h]
  · simp [withOperand, operandFits, h, Nat.lt_of_not_le h]

/-- The words that are not illegal are those of R62's map. -/
theorem mapped_of_not_illegalWord {cmd : Byte} (h : ¬ illegalWord cmd) :
    cmd = 1 ∨ cmd = 2 ∨ cmd = 3 ∨ cmd = 4 ∨ cmd = 5 ∨ cmd = 6 ∨ cmd = 7 ∨ cmd = 8 := by
  unfold illegalWord at h
  revert cmd; decide

/-- The command decoder rejects an operand only for the words 0x05 and 0x06, above 255 bytes (20_memory.md R41). -/
theorem decodeCommand_tooLong_iff {c : HostCommand} :
    decodeCommand c = .error .operandTooLong ↔ (c.cmd = 0x05 ∨ c.cmd = 0x06) ∧ 255 < c.bytes.length := by
  by_cases hillegal : illegalWord c.cmd
  · have hword : ¬ (c.cmd = 0x05 ∨ c.cmd = 0x06) := by
      rintro (h | h) <;> exact absurd (h ▸ hillegal) (by unfold illegalWord; decide)
    rw [decodeCommand_illegalWord hillegal]
    exact ⟨nofun, fun h => absurd h.1 hword⟩
  · rcases mapped_of_not_illegalWord hillegal with h | h | h | h | h | h | h | h
    · simp [decodeCommand_crcInit h, h]
    · simp [decodeCommand_crcUpdate h, h]
    · simp [decodeCommand_encodeReq h, h]
    · simp [decodeCommand_encodeRsp h, h]
    · simp [decodeCommand_decodeReq h, withOperand_tooLong_iff, h]
    · simp [decodeCommand_decodeRsp h, withOperand_tooLong_iff, h]
    · simp [decodeCommand_respLen h, h]
    · simp [decodeCommand_abort h, h]

/-- Only a command with an overlong operand is refused: no instruction is. -/
theorem runCommand_refused_iff {c : HostCommand} {s : State} {r : Refusal} :
    runCommand c s = .refused r ↔ r = .operandTooLong ∧ decodeCommand c = .error .operandTooLong := by
  unfold runCommand
  split
  · next i hi =>
    obtain ⟨t, ht, -⟩ := exec_reported i s
    simp [ht, hi]
  · next hc => simp [hc]
  · next hc => simp [hc, eq_comm]

/-- Settles O32: nothing but a command is refused, and a command only for its operand. -/
theorem overlongOperandIsRefused : Obligations.OverlongOperandIsRefused := by
  intro s r
  rcases step_cases s with ⟨hport, hstep⟩ | ⟨rest, hport, hstep⟩ | ⟨c, rest, hport, hstep⟩
  · simp [hstep, hport]
  · simp [hstep, hport]
  · rw [hstep, runCommand_refused_iff, decodeCommand_tooLong_iff, hport]
    simp

end Sys2Proof.Machine
end

section
/-! What an instruction writes is a function of its operands, CRC, PEND and the parameters (10_state.md R39): the
obligations about reads and writes follow. -/

namespace Sys2Proof.Machine

/-- What an instruction writes: CRC, PEND and STATUS, and each of the other registers or not at all. -/
structure Writes where
  crc : U16
  pend : Option Pending
  status : U16
  tx : Option Bytes
  dec : Option (Option DecodedADU)
  len : Option Byte

/-- The state with these writes done. -/
def State.write (s : State) (w : Writes) : State :=
  { s with
    crc := w.crc, pend := w.pend, status := w.status
    tx := w.tx.getD s.tx, dec := w.dec.getD s.dec, len := w.len.getD s.len }

/-- The registers an instruction reads, in a state of their own. -/
def readState (crc : U16) (pend : Option Pending) (cfg : Config) : State :=
  { State.reset with crc := crc, pend := pend, cfg := cfg }

/-- DECODE_REQ writes DEC and STATUS. -/
def requestWrites (B : Bytes) (crc : U16) (pend : Option Pending) (cfg : Config) : Writes :=
  let t := (readState crc pend cfg).decodeRequest B
  ⟨crc, pend, t.status, none, some t.dec, none⟩

/-- DECODE_RSP writes PEND, DEC and STATUS. -/
def responseWrites (B : Bytes) (crc : U16) (pend : Option Pending) (cfg : Config) : Writes :=
  let t := (readState crc pend cfg).decodeResponse B
  ⟨crc, none, t.status, none, some t.dec, none⟩

/-- ENCODE_REQ writes STATUS, and TX and PEND if none is pending. -/
def encodeRequestWrites (addr : Byte) (req : RequestPDU) (crc : U16) (pend : Option Pending) (_ : Config) : Writes :=
  match pend with
  | none =>
    ⟨crc, some ⟨addr, fcCode (reqFc req), BitVec.ofNat 8 (expectedResponseLen req)⟩, 0x0010,
      some (frame addr (encReq req)), none, none⟩
  | some p => ⟨crc, some p, 0x001A, none, none, none⟩

/-- DECODE_REQ reads the parameters and PEND alone (R157). -/
theorem decodeRequest_eq_write (s : State) (B : Bytes) :
    s.decodeRequest B = s.write (requestWrites B s.crc s.pend s.cfg) := by
  unfold requestWrites State.decodeRequest readState
  cases decReq s.cfg.reservedPolicy B <;> rfl

/-- DECODE_RSP reads the parameters and PEND alone (R164 to R167). -/
theorem decodeResponse_eq_write (s : State) (B : Bytes) :
    s.decodeResponse B = s.write (responseWrites B s.crc s.pend s.cfg) := by
  unfold responseWrites State.decodeResponse readState
  rcases decRsp B with c | ⟨adu, d⟩
  · rfl
  · rcases s.pend with _ | p
    · rfl
    · simp only [State.checkContext]
      split
      · rfl
      · split <;> rfl

/-- ENCODE_REQ reads PEND alone (R130). -/
theorem exec_encodeReq_eq_write (s : State) (addr : Byte) (req : RequestPDU) :
    exec (.encodeReq addr req) s = .next (s.write (encodeRequestWrites addr req s.crc s.pend s.cfg)) := by
  cases hp : s.pend with
  | none => exact exec_encodeReq_idle hp addr req
  | some p => exact (exec_encodeReq_busy hp addr req).trans (by simp [State.write, encodeRequestWrites, hp])

/-- Every instruction writes what its operands, CRC, PEND and the parameters say, and reads nothing else (R39). -/
theorem exec_writes (i : Instr) :
    ∃ w : U16 → Option Pending → Config → Writes, ∀ s, exec i s = .next (s.write (w s.crc s.pend s.cfg)) := by
  rcases instr_kinds i with hk | hk | rfl | ⟨b, rfl⟩ | ⟨a, req, rfl⟩ | ⟨a, rsp, rfl⟩ | ⟨req, rfl⟩ | rfl
  · obtain ⟨B, hB⟩ := exec_of_decodesResponse hk
    exact ⟨responseWrites B, fun s => (hB s).trans (congrArg _ (decodeResponse_eq_write s B))⟩
  · obtain ⟨B, hB⟩ := exec_of_decodesRequest hk
    exact ⟨requestWrites B, fun s => (hB s).trans (congrArg _ (decodeRequest_eq_write s B))⟩
  · exact ⟨fun _ pend _ => ⟨0xFFFF, pend, plainStatus .ok pend, none, none, none⟩, fun _ => rfl⟩
  · exact ⟨fun crc pend _ => ⟨crc16Step crc b, pend, plainStatus .ok pend, none, none, none⟩, fun _ => rfl⟩
  · exact ⟨encodeRequestWrites a req, fun s => exec_encodeReq_eq_write s a req⟩
  · exact ⟨fun crc pend _ => ⟨crc, pend, plainStatus .ok pend, some (frame a (encRsp rsp)), none, none⟩, fun _ => rfl⟩
  · exact ⟨fun crc pend _ =>
      ⟨crc, pend, plainStatus .ok pend, none, none, some (BitVec.ofNat 8 (expectedResponseLen req))⟩, fun _ => rfl⟩
  · exact ⟨fun crc _ _ => ⟨crc, none, plainStatus .ok none, none, none, none⟩, fun _ => rfl⟩

/-- A register is equal in both states a write is done in, or untouched in both. -/
theorem getD_eq_or_untouched {α : Type} (o : Option α) (a a' : α) :
    o.getD a = o.getD a' ∨ (o.getD a = a ∧ o.getD a' = a') := by
  cases o with
  | none => exact .inr ⟨rfl, rfl⟩
  | some _ => exact .inl rfl

/-- Settles O48: of the same writes, each register is written in both states or in neither. -/
theorem resultsDependOnCrcAndPendAlone : Obligations.ResultsDependOnCrcAndPendAlone := by
  intro i s s' hcrc hpend hcfg
  obtain ⟨w, hw⟩ := exec_writes i
  have hw' : exec i s' = .next (s'.write (w s.crc s.pend s.cfg)) := by rw [hcrc, hpend, hcfg]; exact hw s'
  exact ⟨_, _, hw s, hw', rfl, rfl, rfl, getD_eq_or_untouched .., getD_eq_or_untouched .., getD_eq_or_untouched ..⟩

/-- An instruction reads no STATUS: it writes all of it. -/
theorem exec_with_status (i : Instr) (s : State) (v : U16) : exec i { s with status := v } = exec i s := by
  obtain ⟨w, hw⟩ := exec_writes i
  rw [hw, hw]; rfl

/-- An instruction neither reads nor writes the port (log entry 2). -/
theorem exec_with_port {i : Instr} {s t : State} (h : exec i s = .next t) (port : List HostEvent) :
    exec i { s with port := port } = .next { t with port := port } := by
  obtain ⟨w, hw⟩ := exec_writes i
  rw [hw] at h; cases h
  exact hw _

/-- Settles O44: neither an instruction nor an illegal word reads STATUS, and a refusal does not depend on the state. -/
theorem statusCarriesNothingOver : Obligations.StatusCarriesNothingOver := by
  refine ⟨exec_with_status, fun c s v => ?_⟩
  unfold runCommand
  split
  · exact exec_with_status _ s v
  · rfl
  · rfl

/-- The STATUS of an accepted ENCODE_REQ is no failure (R130). -/
theorem statusResult_ok_pending : statusResult 0x0010#16 = ResultCode.ok.code := by decide

/-- Settles O47: each register is written by the rules of the commands named, and TX by ENCODE_REQ only if none was
pending. -/
theorem onlyTheNamedCommandsWrite : Obligations.OnlyTheNamedCommandsWrite := by
  intro i s t h
  rcases instr_kinds i with hk | hk | rfl | ⟨b, rfl⟩ | ⟨a, req, rfl⟩ | ⟨a, rsp, rfl⟩ | ⟨req, rfl⟩ | rfl
  · obtain ⟨B, hB⟩ := exec_of_decodesResponse hk
    rw [hB] at h; cases h
    simp [decodeResponse_frame, hk]
  · obtain ⟨B, hB⟩ := exec_of_decodesRequest hk
    rw [hB] at h; cases h
    simp [decodeRequest_frame, hk]
  · cases h; simp
  · cases h; simp
  · cases hp : s.pend with
    | none => rw [exec_encodeReq_idle hp] at h; cases h; simp [statusResult_ok_pending]
    | some p => rw [exec_encodeReq_busy hp] at h; cases h; simp [hp]
  · cases h; simp [plainStatus]
  · cases h; simp
  · cases h; simp

/-- A request decode that fails leaves every register but DEC and STATUS alone (R157, R192). -/
theorem decodeRequest_fails {s : State} {B : Bytes}
    (h : statusResult (s.decodeRequest B).status ≠ ResultCode.ok.code) :
    s.decodeRequest B = { s with dec := none, status := (s.decodeRequest B).status } := by
  rcases decodeRequest_cases s B with ⟨c, -, hs⟩ | ⟨adu, -, hs⟩
  · rw [hs]; rfl
  · exact absurd (by simp [hs, plainStatus]) h

/-- A response decode that fails leaves every register but DEC, PEND and STATUS alone (R167, R192). -/
theorem decodeResponse_fails {s : State} {B : Bytes}
    (h : statusResult (s.decodeResponse B).status ≠ ResultCode.ok.code) :
    s.decodeResponse B = { s with dec := none, pend := none, status := (s.decodeResponse B).status } := by
  rcases decodeResponse_cases s B with ⟨c, -, hs⟩ | ⟨adu, d, -, -, hs⟩ | ⟨adu, d, p, -, -, hs⟩
  · rw [hs]; rfl
  · exact absurd (by simp [hs]) h
  · rcases checkContext_cases { s with pend := none } p (byteAt B 1 == p.fc) adu d with
      ⟨-, h'⟩ | ⟨-, -, -, h'⟩ | ⟨-, -, h'⟩
    · rw [hs, h']; rfl
    · rw [hs, h']; rfl
    · exact absurd (by simp [hs, h']) h

/-- No instruction decodes in both directions. -/
theorem decodesResponse_of_decodesRequest {i : Instr} (h : i.decodesRequest = true) : i.decodesResponse = false := by
  cases i with
  | decodeReq | reqManage | reqCmdForce | reqCmdPosition | reqCmdKinematic | reqCmdHaptic | reqCmdSleep | reqRead
  | reqWrite => rfl
  | crcInit | crcUpdate | encodeReq | encodeRsp | decodeRsp | respLen | abort | rspManage | rspCommand | rspRead
  | rspWrite => cases h

/-- A command whose STATUS is a plain OK does not fail. -/
theorem not_fails_of_plain {s : State} (h : s.status = plainStatus .ok s.pend) :
    ¬ statusResult s.status ≠ ResultCode.ok.code := by
  simp [h, plainStatus]

/-- Settles O49: a decode that fails delivers none, BUSY writes STATUS alone, and no other instruction fails. -/
theorem failuresArePrecise : Obligations.FailuresArePrecise := by
  intro i s t h hfail
  rcases instr_kinds i with hk | hk | rfl | ⟨b, rfl⟩ | ⟨a, req, rfl⟩ | ⟨a, rsp, rfl⟩ | ⟨req, rfl⟩ | rfl
  · obtain ⟨B, hB⟩ := exec_of_decodesResponse hk
    rw [hB] at h; cases h
    simpa only [hk, Bool.or_true, if_true] using decodeResponse_fails hfail
  · obtain ⟨B, hB⟩ := exec_of_decodesRequest hk
    rw [hB] at h; cases h
    simpa [hk, decodesResponse_of_decodesRequest hk] using decodeRequest_fails hfail
  · cases h; exact absurd hfail (not_fails_of_plain rfl)
  · cases h; exact absurd hfail (not_fails_of_plain rfl)
  · cases hp : s.pend with
    | none => rw [exec_encodeReq_idle hp] at h; cases h; exact absurd statusResult_ok_pending hfail
    | some p => rw [exec_encodeReq_busy hp] at h; cases h; simp [Instr.decodesRequest, Instr.decodesResponse, hp]
  · cases h; exact absurd hfail (not_fails_of_plain rfl)
  · cases h; exact absurd hfail (not_fails_of_plain rfl)
  · cases h; exact absurd hfail (not_fails_of_plain rfl)

end Sys2Proof.Machine
end

section
/-! The pseudo-commands at the port (30_encoding.md R91): a sequence of issued instructions runs as that sequence. -/

namespace Sys2Proof.Machine

/-- An issued instruction is what the next step runs. -/
theorem step_issueInstr {i : Instr} (hi : i.wellFormed = true) {s : State} {rest : List HostEvent}
    (h : s.port = issueInstr i :: rest) : step s = exec i { s with port := rest } :=
  (step_command h).trans (runCommand_issue (decodeOfEncodeIsIdentity i hi) _)

/-- A run continues from the state a step answers. -/
theorem run_succ {M : Host.Core} {s t : M.State} (h : M.step s = .next t) (k : Nat) : M.run (k + 1) s = M.run k t := by
  rw [Host.Core.run, h]

/-- The same for this block. -/
theorem core_run_succ {s t : State} (h : step s = .next t) (k : Nat) : core.run (k + 1) s = core.run k t :=
  run_succ (M := core) (s := s) (t := t) h k

/-- Instructions issued at the port run as `execAll` runs them, and their events are taken. -/
theorem run_issued {is : List Instr} (his : ∀ i ∈ is, i.wellFormed = true) (rest : List HostEvent) {s t : State}
    (h : execAll is s = .next t) :
    core.run is.length { s with port := is.map issueInstr ++ rest } = .next { t with port := rest } := by
  induction is generalizing s with
  | nil => cases h; rfl
  | cons i is ih =>
    obtain ⟨hi, his⟩ := List.forall_mem_cons.1 his
    obtain ⟨u, hu, -⟩ := exec_reported i s
    rw [execAll_cons_of_next hu] at h
    have hstep : step { s with port := (i :: is).map issueInstr ++ rest } =
        .next { u with port := is.map issueInstr ++ rest } := (step_issueInstr hi rfl).trans (exec_with_port hu _)
    exact (core_run_succ hstep _).trans (ih his h)

/-- The same from a state whose port they stand at. -/
theorem run_of_port {is : List Instr} (his : ∀ i ∈ is, i.wellFormed = true) {s t : State} {rest : List HostEvent}
    (hport : s.port = is.map issueInstr ++ rest) (h : execAll is s = .next t) :
    core.run is.length s = .next { t with port := rest } := by
  have hrun := run_issued his rest h
  rwa [← hport] at hrun

/-- Settles O3: CRC_OF issues CRC_INIT and a CRC_UPDATE for each byte. -/
theorem crcOfLeavesCrc16 : Obligations.CrcOfLeavesCrc16 := by
  intro s B rest hport
  have his : ∀ i ∈ Instr.crcInit :: B.map .crcUpdate, i.wellFormed = true := by simp [Instr.wellFormed]
  have hport' : s.port = (Instr.crcInit :: B.map .crcUpdate).map issueInstr ++ rest := by
    rw [hport, crcOf, List.map_cons, List.map_map]; rfl
  have hrun := run_of_port his hport' (execAll_crcInit_updates s B)
  rwa [List.length_cons, List.length_map] at hrun

/-- Settles O51: ENCODE_REQ opens the context that the reply of the same address and family matches. -/
theorem roundtripDeliversTheReply : Obligations.RoundtripDeliversTheReply := by
  intro s a req rsp rest hp hfc hport
  have hfits : (frame a (encRsp rsp)).length ≤ 255 := by
    rw [frame_length, encRsp_length]
    cases rspFc rsp <;> decide
  have his : ∀ i ∈ [Instr.encodeReq a req, .decodeRsp (frame a (encRsp rsp))], i.wellFormed = true := by
    simpa [Instr.wellFormed, operandFits] using hfits
  have hrun : execAll [Instr.encodeReq a req, .decodeRsp (frame a (encRsp rsp))] s =
      .next { s with tx := frame a (encReq req), dec := some (.rsp a rsp), status := 0x00E0 } := by
    have hcode : fcCode (reqFc req) = fcCode (rspFc rsp) := by rw [hfc]
    have hreply {u : State} {n : Byte} (hu : u.pend = some ⟨a, fcCode (reqFc req), n⟩) :=
      exec_decodeRsp_frame_encRsp hu rfl fun _ => hcode
    rw [execAll_cons_of_next (exec_encodeReq_idle hp a req), execAll_cons_of_next (hreply rfl), if_pos hcode, ← hp]; rfl
  exact run_of_port his hport hrun

end Sys2Proof.Machine
end

section
/-! The wire rows as instructions (log entry 5): a row is its frame's decode command, and its frame is CRC-valid exactly
when its CRC field is the CRC of the bytes before it. -/

namespace Sys2Proof.Machine

/-! ### Request rows -/

/-- `dec_req` of a frame whose fields parse and whose CRC does not hold (R141, R157). -/
theorem decReq_checksumMismatch {policy : ReservedPolicy} {B : Bytes} {fc : FunctionCode} {pdu : RequestPDU}
    (hlength : B.length = reqLen fc) (hfc : byteAt B 1 = fcCode fc) (hpdu : parseReq policy fc B = .ok pdu)
    (hcrc : crcValid B = false) : decReq policy B = .error .checksumMismatch := by
  have htwo : 2 ≤ B.length := hlength ▸ le_trans (by decide) (minReq_le fc)
  rw [decReq, (frameFc_ok minReq_le).2 ⟨fcOf_eq_some.2 hfc, hlength⟩]
  simp only [hpdu, afterCrc_mismatch htwo hcrc]

section
variable {s : State} {i : Instr} {B : Bytes} {fc : FunctionCode}

/-- A request row whose fields parse is delivered with the right CRC, and CHECKSUM_MISMATCH with any other. -/
theorem requestRow_decodes {A : Bytes} {crc : U16} {pdu : RequestPDU} (hrow : encode i = .requestFrame B)
    (hB : B = A ++ putLe16 crc) (hlength : B.length = reqLen fc) (hfc : byteAt B 1 = fcCode fc)
    (hpdu : parseReq s.cfg.reservedPolicy fc B = .ok pdu) :
    (crc = crc16 A → RequestDelivered s i (byteAt B 0) pdu) ∧
    (crc ≠ crc16 A → RequestFails s i .checksumMismatch) := by
  have hvalid : crcValid B = true ↔ crc = crc16 A := hB ▸ crcValid_append_iff
  rw [RequestDelivered, RequestFails, exec_of_encode_request hrow]
  exact ⟨fun h => exec_decodeReq_delivers (hvalid.2 h) hlength hfc hpdu,
    fun h => exec_decodeReq_fails (decReq_checksumMismatch hlength hfc hpdu (Bool.eq_false_iff.2 (mt hvalid.1 h)))⟩

/-- A request row whose fields do not parse fails on them, whatever its CRC (R189). -/
theorem requestRow_unparsed {c : ResultCode} (hrow : encode i = .requestFrame B)
    (hlength : B.length = reqLen fc) (hfc : byteAt B 1 = fcCode fc)
    (hfields : parseReq s.cfg.reservedPolicy fc B = .error c) : RequestFails s i c := by
  rw [RequestFails, exec_of_encode_request hrow]
  exact exec_decodeReq_unparsed hlength hfc hfields

end

/-- Settles O16: the rows' fields always parse, to the values laid out in the frame. -/
theorem plainRequestRowsDecode : Obligations.PlainRequestRowsDecode := by
  refine ⟨fun s addr f crc => ?_, fun s addr p crc => ?_, fun s addr h crc => ?_, fun s addr a w crc => ?_,
    fun s addr a w v crc => ?_⟩
  · obtain ⟨hf, -⟩ := reqCommandFrame_fields addr 0x1C f crc
    exact requestRow_decodes (B := reqCommandFrame addr 0x1C f crc) (fc := .command) rfl rfl rfl rfl
      ((parseReq_force rfl _).trans (by rw [hf]))
  · obtain ⟨hp, -⟩ := reqCommandFrame_fields addr 0x1E p crc
    exact requestRow_decodes (B := reqCommandFrame addr 0x1E p crc) (fc := .command) rfl rfl rfl rfl
      ((parseReq_position rfl _).trans (by rw [hp]))
  · obtain ⟨hh, -⟩ := reqCommandFrame_fields addr 0x22 h crc
    exact requestRow_decodes (B := reqCommandFrame addr 0x22 h crc) (fc := .command) rfl rfl rfl rfl
      ((parseReq_haptic rfl _).trans (by rw [hh]))
  · obtain ⟨ha, -⟩ := reqReadFrame_fields addr a w crc
    exact requestRow_decodes (B := reqReadFrame addr a w crc) (fc := .read) rfl rfl rfl rfl (by rw [parseReq, ha]; rfl)
  · obtain ⟨ha, hv, -⟩ := reqWriteFrame_fields addr a w v crc
    exact requestRow_decodes (B := reqWriteFrame addr a w v crc) (fc := .write) rfl rfl rfl rfl
      (by rw [parseReq, ha, hv]; rfl)

/-- Settles O17: the sub-function is checked before the CRC, and only Enable and Disable pass. -/
theorem manageRequestRowDecodes : Obligations.ManageRequestRowDecodes := by
  intro s addr sf r d crc
  obtain ⟨hsf, hr, hd, -⟩ := reqManageFrame_fields addr sf r d crc
  have hparse (f : SubFunction) (hf : sf = subFunctionCode f) :=
    requestRow_decodes (s := s) (i := .reqManage addr sf r d crc) (fc := .manage) rfl rfl rfl rfl
      ((parseReq_manage (hsf.trans hf) _).trans (by rw [hr, hd]))
  refine ⟨fun hf => (hparse .enable hf).1, fun hf => (hparse .disable hf).1, fun henable hdisable => ?_, ?_⟩
  · exact requestRow_unparsed (fc := .manage) rfl rfl rfl
      (parseReq_invalidSubFunction (hsf.trans_ne henable) (hsf.trans_ne hdisable) _)
  · rintro (hf | hf)
    · exact (hparse .enable hf).2
    · exact (hparse .disable hf).2

/-- The four reserved bytes of a Command row are the bytes of its reserved field (R68, R70). -/
theorem reservedZero_reqCommandFrame (addr sc : Byte) (z : U32) (crc : U16) :
    reservedZero (reqCommandFrame addr sc z crc) = true ↔ z = 0 := by
  constructor
  · intro h
    obtain ⟨hz, -⟩ := reqCommandFrame_fields addr sc z crc
    simp only [reservedZero, Bool.and_eq_true, beq_iff_eq] at h
    obtain ⟨⟨⟨h3, h4⟩, h5⟩, h6⟩ := h
    rw [← hz, be32, be16, be16, h3, h4, h5, h6]; rfl
  · rintro rfl; rfl

/-- So they pass under Ignore, and under Reject if that field is zero (R147). -/
theorem reservedPasses_reqCommandFrame {policy : ReservedPolicy} {z : U32} (h : policy = .ignore ∨ z = 0)
    (addr sc : Byte) (crc : U16) : reservedPasses policy (reqCommandFrame addr sc z crc) = true := by
  cases policy with
  | ignore => rfl
  | reject => exact (reservedZero_reqCommandFrame addr sc z crc).2 (h.resolve_left nofun)

/-- Under Reject a non-zero field does not pass. -/
theorem reservedPasses_reqCommandFrame_reject {policy : ReservedPolicy} {z : U32} (h : policy = .reject) (hz : z ≠ 0)
    (addr sc : Byte) (crc : U16) : reservedPasses policy (reqCommandFrame addr sc z crc) = false := by
  subst h
  exact Bool.eq_false_iff.2 (mt (reservedZero_reqCommandFrame addr sc z crc).1 hz)

/-- Settles O18: the reserved bytes are checked before the CRC, as the policy says. -/
theorem reservedRowsFollowPolicy : Obligations.ReservedRowsFollowPolicy := by
  intro s addr z crc
  have hnonzero (sc : Byte) (hsc : sc ∈ ([0x20, 0x00] : List Byte)) (hreject : s.cfg.reservedPolicy = .reject)
      (hz : z ≠ 0) : parseReq s.cfg.reservedPolicy .command (reqCommandFrame addr sc z crc) = .error .reservedNonzero :=
    parseReq_reservedNonzero hsc (reservedPasses_reqCommandFrame_reject hreject hz addr sc crc)
  have hkinematic (h : s.cfg.reservedPolicy = .ignore ∨ z = 0) :=
    requestRow_decodes (s := s) (i := .reqCmdKinematic addr z crc) (fc := .command) rfl rfl rfl rfl
      (parseReq_kinematic rfl (reservedPasses_reqCommandFrame h addr 0x20 crc))
  have hsleep (h : s.cfg.reservedPolicy = .ignore ∨ z = 0) :=
    requestRow_decodes (s := s) (i := .reqCmdSleep addr z crc) (fc := .command) rfl rfl rfl rfl
      (parseReq_sleep rfl (reservedPasses_reqCommandFrame h addr 0x00 crc))
  exact ⟨⟨fun h => (hkinematic h).1,
      fun hr hz => requestRow_unparsed (fc := .command) rfl rfl rfl (hnonzero 0x20 (by decide) hr hz),
      fun h => (hkinematic h).2⟩,
    ⟨fun h => (hsleep h).1,
      fun hr hz => requestRow_unparsed (fc := .command) rfl rfl rfl (hnonzero 0x00 (by decide) hr hz),
      fun h => (hsleep h).2⟩⟩

/-! ### Response rows -/

/-- A response row is delivered with the right CRC, and CHECKSUM_MISMATCH with any other. -/
theorem responseRow_decodes {i : Instr} {A B : Bytes} {crc : U16} {fc : FunctionCode} {pdu : ResponsePDU} {d : Bool}
    (hrow : encode i = .responseFrame B) (hB : B = A ++ putLe16 crc) (hlength : B.length = rspLen fc)
    (hfc : byteAt B 1 = fcCode fc) (hpdu : parseRsp fc B = (pdu, d)) :
    (crc = crc16 A → ResponseDelivered i (byteAt B 0) (fcCode fc) pdu d) ∧
    (crc ≠ crc16 A → ∀ s, ResponseFails s i .checksumMismatch) := by
  have hvalid : crcValid B = true ↔ crc = crc16 A := hB ▸ crcValid_append_iff
  have hpass := responseFieldsPass_iff.2 ⟨fc, fcOf_eq_some.2 hfc, hlength⟩
  simp only [ResponseDelivered, ResponseFails, exec_of_encode_response hrow]
  exact ⟨fun h => exec_decodeRsp_delivers (hvalid.2 h) hlength hfc hpdu,
    fun h => exec_decodeRsp_checksumMismatch hpass (Bool.eq_false_iff.2 (mt hvalid.1 h))⟩

/-- Settles O21: a response row's fields always parse, to the values laid out in the frame, with any Mode byte. -/
theorem responseRowsDecode : Obligations.ResponseRowsDecode := by
  refine ⟨fun addr sc r d crc => ?_, fun addr body crc => ?_, fun addr x m body crc => ?_, fun addr m body crc => ?_⟩
  · obtain ⟨hsc, hr, hd, -⟩ : let F := rspManageFrame addr sc r d crc
      be16 F 2 = sc ∧ be32 F 4 = r ∧ be16 F 8 = d ∧ le16 F 10 = crc := reqManageFrame_fields addr sc r d crc
    exact responseRow_decodes (B := rspManageFrame addr sc r d crc) (fc := .manage) rfl rfl rfl rfl
      (by rw [parseRsp, hsc, hr, hd])
  · obtain ⟨hbody, -⟩ := rspCommandFrame_fields addr body crc
    exact responseRow_decodes (B := rspCommandFrame addr body crc) (fc := .command) rfl rfl rfl rfl
      (by rw [parseRsp, hbody])
  · obtain ⟨hx, hm, hbody, -⟩ := rspReadFrame_fields addr x m body crc
    have hrow (k : Mode) (defaulted : Bool) (h : modeOf m = (k, defaulted)) :=
      responseRow_decodes (i := .rspRead addr x m body crc) (fc := .read) rfl rfl rfl rfl
        ((parseRsp_read (hm ▸ h)).trans (by rw [hx, bodyFields_eq_parseBody, hbody]))
    exact ⟨fun k hk => (hrow k false (modeOf_of_eq_code hk)).1, fun hk => (hrow _ true (modeOf_unknown hk)).1,
      (hrow _ _ rfl).2⟩
  · obtain ⟨hm, hbody, -⟩ := rspWriteFrame_fields addr m body crc
    have hrow (k : Mode) (defaulted : Bool) (h : modeOf m = (k, defaulted)) :=
      responseRow_decodes (i := .rspWrite addr m body crc) (fc := .write) rfl rfl rfl rfl
        ((parseRsp_write (hm ▸ h)).trans (by rw [bodyFields_eq_parseBody, hbody]))
    exact ⟨fun k hk => (hrow k false (modeOf_of_eq_code hk)).1, fun hk => (hrow _ true (modeOf_unknown hk)).1,
      (hrow _ _ rfl).2⟩

end Sys2Proof.Machine
end

section
/-! The lengths of frames (30_encoding.md R85, 43_control.md R170, R171), and the obligations settled from them. -/

namespace Sys2Proof.Machine

/-- A request's frame has its function code's length. -/
theorem frame_encReq_length (addr : Byte) (req : RequestPDU) :
    (frame addr (encReq req)).length = reqLen (reqFc req) := by
  rw [frame_length, encReq_length]

theorem frame_encRsp_length (addr : Byte) (rsp : ResponsePDU) :
    (frame addr (encRsp rsp)).length = rspLen (rspFc rsp) := by
  rw [frame_length, encRsp_length]

/-- Settles O9: ENCODE_RSP writes TX and STATUS, and the length is fixed by the function code alone. -/
theorem encodeRspWritesContractFrame : Obligations.EncodeRspWritesContractFrame :=
  ⟨fun _ => decodeCommand_encodeRsp, fun s addr rsp => by rw [exec_encodeRsp, State.finish_eq], frame_encRsp_length,
    fun addr rsp req h => by rw [frame_encRsp_length, expectedResponseLen, h]⟩

/-- Settles O12: each variant's length is its code's, and each minimum is one of its column and at most the others. -/
theorem frameLengthsFollowTheTable : Obligations.FrameLengthsFollowTheTable :=
  ⟨frame_encReq_length, frame_encRsp_length, rfl, rfl, fun fc => ⟨minReq_le fc, minRsp_le fc⟩, ⟨.read, rfl⟩,
    ⟨.manage, rfl⟩⟩

/-- Settles O27: the expected length is looked up by the function code, and a serialised response has the payload size
of its code. -/
theorem expectedResponseLengths : Obligations.ExpectedResponseLengths := by
  refine ⟨rfl, fun rsp => ?_, fun _ _ _ => rfl, fun _ => rfl, fun _ _ => rfl, fun _ _ _ => rfl, fun _ => rfl,
    fun _ => rfl⟩
  have hlength := encRsp_length rsp
  rw [rspLen] at hlength
  omega

end Sys2Proof.Machine
end

section
/-! A response of another family than the pending request's (42_decode.md R166; 60_exceptions.md R187;
70_reset_and_hazards.md R218). -/

namespace Sys2Proof.Machine

/-- A response PDU is parsed as one of its frame's function code. -/
theorem rspFc_parseRsp (fc : FunctionCode) (B : Bytes) : rspFc (parseRsp fc B).1 = fc := by cases fc <;> rfl

/-- The expected length of a legal context is the response length of its function code, at least the minimum. -/
theorem Pending.legal.expLen {p : Pending} (h : p.legal) :
    ∃ fc, p.fc = fcCode fc ∧ p.expLen.toNat = rspLen fc ∧ minRsp ≤ p.expLen.toNat := by
  obtain ⟨fc, hfc, hlen⟩ := h
  have htoNat : p.expLen.toNat = rspLen fc := by rw [hlen]; cases fc <;> rfl
  exact ⟨fc, hfc, htoNat, htoNat ▸ minRsp_le fc⟩

/-- At the expected length of a legal context no frame of another function code has its own length (R169). -/
theorem exec_decodeRsp_lengthMismatch_of_other {p : Pending} {B : Bytes} {fc : FunctionCode} (hlegal : p.legal)
    (hlength : B.length = p.expLen.toNat) (hfc : byteAt B 1 = fcCode fc) (hother : byteAt B 1 ≠ p.fc) (s : State) :
    ResponseFails s (.decodeRsp B) .lengthMismatch := by
  obtain ⟨pendingFc, hp, hexp, hmin⟩ := hlegal.expLen
  refine exec_decodeRsp_malformed (frameFc_lengthMismatch (hlength ▸ hmin) hfc fun hlen => hother ?_) s
  rw [hfc, hp, rspLen_inj (hlen.symm.trans (hlength.trans hexp))]

/-- A known function code byte is the code of a function code (R88). -/
theorem exists_fcCode_of_known {b : Byte} (h : b ∈ knownCodes) : ∃ fc, b = fcCode fc := by
  simp only [knownCodes, List.mem_cons, List.not_mem_nil, or_false] at h
  rcases h with rfl | rfl | rfl | rfl
  · exact ⟨.manage, rfl⟩
  · exact ⟨.command, rfl⟩
  · exact ⟨.read, rfl⟩
  · exact ⟨.write, rfl⟩

/-- Without STRICT_VARIANT a response of another family is delivered, with VARIANT_MATCH 0 (R166). -/
theorem decodeResponse_otherVariant {s : State} {p : Pending} {B : Bytes} {adu : DecodedADU} {d : Bool}
    (hd : decRsp B = .ok (adu, d)) (hp : s.pend = some p) (haddr : byteAt B 0 = p.addr) (hother : byteAt B 1 ≠ p.fc)
    (hstrict : s.cfg.strictVariant = false) :
    s.decodeResponse B =
      { s with pend := none, dec := some adu, status := packStatus .ok false ⟨true, true, false, d⟩ } := by
  rw [decodeResponse_admitted hd hp haddr.symm (by simp [hstrict]), beq_false_of_ne hother]

/-- Settles O22: the variant check comes after the CRC's, so a CRC-valid frame of another family meets it; at the
expected length the length check comes first. -/
theorem otherVariantFollowsStrictVariant : Obligations.OtherVariantFollowsStrictVariant := by
  intro s p B hp hother
  refine ⟨fun fc hfc hlength hcrc haddr => ⟨fun hstrict => ?_, fun hstrict => ?_⟩,
    fun fc hfc hlegal hlength => exec_decodeRsp_lengthMismatch_of_other hlegal hlength hfc hother s⟩
  · have hd := decRsp_of_crcValid hcrc hlength hfc
    rw [exec_decodeRsp, decodeResponse_otherVariant hd hp haddr hother hstrict]
    exact ⟨_, rfl, ⟨_, rfl, rspFc_parseRsp fc B⟩, rfl, by simp [ResultCode.code]⟩
  · have hpass := responseFieldsPass_iff.2 ⟨fc, fcOf_eq_some.2 hfc, hlength⟩
    exact exec_decodeRsp_unexpectedVariant hpass hcrc hp haddr hother hstrict

/-- Settles O23: the function code check comes before the length check, and at the expected length one of them fails. -/
theorem otherVariantAtExpectedLengthFails : Obligations.OtherVariantAtExpectedLengthFails := by
  intro s p B hp hlegal hlength hother
  refine ⟨fun hknown => ?_, fun hunknown => ?_⟩
  · obtain ⟨fc, hfc⟩ := exists_fcCode_of_known hknown
    exact exec_decodeRsp_lengthMismatch_of_other hlegal hlength hfc hother s
  · obtain ⟨-, -, -, hmin⟩ := hlegal.expLen
    exact exec_decodeRsp_malformed (frameFc_unknown (hlength ▸ hmin) hunknown _) s

end Sys2Proof.Machine
end

section
/-! Single-bit corruption of an accepted frame (42_decode.md R169): what each check answers to the flipped frame. -/

namespace Sys2Proof.Machine

/-! ### A flip in the function code -/

/-- A frame of one function code's length and another code byte fails a structural check, in either direction whose
lengths tell the codes apart. -/
theorem frameFc_wrong_code {min : Nat} {len : FunctionCode → Nat} (hmin : ∀ fc, min ≤ len fc)
    (hinj : ∀ {fc fc'}, len fc = len fc' → fc = fc') {B : Bytes} {fc : FunctionCode} (hlength : B.length = len fc)
    (hcode : byteAt B 1 ≠ fcCode fc) :
    ∃ c, frameFc min len B = .error c ∧ (c = .unknownFunctionCode ∨ c = .lengthMismatch) := by
  have hlong : min ≤ B.length := hlength ▸ hmin fc
  by_cases hknown : byteAt B 1 ∈ knownCodes
  · obtain ⟨fc', hfc'⟩ := exists_fcCode_of_known hknown
    have hother : B.length ≠ len fc' := fun h => hcode (by rw [hfc', hinj (hlength.symm.trans h)])
    exact ⟨_, frameFc_lengthMismatch hlong hfc' hother, .inr rfl⟩
  · exact ⟨_, frameFc_unknown hlong hknown len, .inl rfl⟩

/-- A flip in byte 1 changes the function code. -/
theorem flipBit_code_ne {B : Bytes} {k : Nat} {b : Byte} (hb : byteAt B 1 = b) (hk : k / 8 = 1)
    (hlength : k / 8 < B.length) : byteAt (flipBit B k) 1 ≠ b := by
  have hne := byteAt_flipBit_ne hlength
  rwa [hk, hb] at hne

/-! ### A flip elsewhere -/

/-- The parse of a request reads no byte of its CRC field. -/
theorem parseReq_congr {policy : ReservedPolicy} {fc : FunctionCode} {B B' : Bytes}
    (h : ∀ n < reqLen fc - 2, byteAt B' n = byteAt B n) : parseReq policy fc B' = parseReq policy fc B := by
  cases fc with
  | manage =>
    have h : ∀ n < 10, byteAt B' n = byteAt B n := h
    simp [parseReq, be16, be32, h]
  | command =>
    have h : ∀ n < 7, byteAt B' n = byteAt B n := h
    have hreserved : reservedPasses policy B' = reservedPasses policy B := by
      cases policy <;> simp [reservedPasses, reservedZero, h]
    simp [parseReq, parseReqCommand, be16, be32, h, hreserved]
  | read =>
    have h : ∀ n < 5, byteAt B' n = byteAt B n := h
    simp [parseReq, be16, h]
  | write =>
    have h : ∀ n < 9, byteAt B' n = byteAt B n := h
    simp [parseReq, be16, be32, h]

/-- The codes a request's fields can fail with (R145 to R147). -/
theorem parseReq_error_mem {policy : ReservedPolicy} {fc : FunctionCode} {B : Bytes} {c : ResultCode}
    (h : parseReq policy fc B = .error c) : c ∈ [ResultCode.unknownSubCode, .invalidSubFunction, .reservedNonzero] := by
  cases fc with
  | manage =>
    simp only [parseReq] at h
    split at h
    · cases h; decide
    · cases h
  | command =>
    by_cases hsc : byteAt B 2 ∈ ([0x1C, 0x1E, 0x20, 0x22, 0x00] : List Byte)
    · by_cases hok : byteAt B 2 ∈ ([0x1C, 0x1E, 0x22] : List Byte) ∨
        byteAt B 2 ∈ ([0x20, 0x00] : List Byte) ∧ reservedPasses policy B = true
      · obtain ⟨pdu, hpdu⟩ := parseReq_command_ok hok
        rw [hpdu] at h; cases h
      · have hreserved : byteAt B 2 ∈ ([0x20, 0x00] : List Byte) ∧ reservedPasses policy B = false := by
          simp only [List.mem_cons, List.not_mem_nil, or_false, Bool.eq_false_iff] at hsc hok ⊢
          tauto
        rw [parseReq_reservedNonzero hreserved.1 hreserved.2] at h; cases h
        decide
    · rw [parseReq_unknownSubCode hsc] at h; cases h
      decide
  | read => cases h
  | write => cases h

/-- The reserved bytes are those at offsets 3 to 6. -/
theorem reservedZero_iff {B : Bytes} : reservedZero B = true ↔ ∀ n, 3 ≤ n → n < 7 → byteAt B n = 0 := by
  simp only [reservedZero, Bool.and_eq_true, beq_iff_eq]
  constructor
  · rintro ⟨⟨⟨h3, h4⟩, h5⟩, h6⟩ n hlow hhigh
    interval_cases n <;> assumption
  · intro h
    exact ⟨⟨⟨h 3 (by decide) (by decide), h 4 (by decide) (by decide)⟩, h 5 (by decide) (by decide)⟩,
      h 6 (by decide) (by decide)⟩

/-- Under Reject a frame that parses has its reserved bytes zero, so a flip in one of them is seen (R147). -/
theorem parseReq_flipBit_reservedNonzero {B : Bytes} {k : Nat} {pdu : RequestPDU}
    (hpdu : parseReq .reject .command B = .ok pdu) (hsc : byteAt B 2 ∈ ([0x20, 0x00] : List Byte))
    (hlow : 3 ≤ k / 8) (hhigh : k / 8 < 7) (hk : k / 8 < B.length) :
    parseReq .reject .command (flipBit B k) = .error .reservedNonzero := by
  have hzero : reservedZero B = true := by
    by_contra hz
    rw [parseReq_reservedNonzero hsc (policy := .reject) (Bool.eq_false_iff.2 hz)] at hpdu
    cases hpdu
  have hbyte := reservedZero_iff.1 hzero _ hlow hhigh
  have hsc' : byteAt (flipBit B k) 2 = byteAt B 2 := byteAt_flipBit_of_ne (by omega)
  have hnonzero : reservedZero (flipBit B k) = false := Bool.eq_false_iff.2 fun hz =>
    byteAt_flipBit_ne hk ((reservedZero_iff.1 hz _ hlow hhigh).trans hbyte.symm)
  exact parseReq_reservedNonzero (hsc' ▸ hsc) hnonzero

/-- A request that passes the checks before the CRC parses as one of its own function code. -/
theorem parses_of_fieldsPass_of_code {policy : ReservedPolicy} {B : Bytes} {fc : FunctionCode}
    (h : requestFieldsPass policy B) (hlength : B.length = reqLen fc) :
    byteAt B 1 = fcCode fc ∧ ∃ pdu, parseReq policy fc B = .ok pdu := by
  obtain ⟨fc', pdu, hfc', hlength', hpdu⟩ := parses_of_requestFieldsPass h
  cases reqLen_inj (hlength.symm.trans hlength')
  exact ⟨hfc', pdu, hpdu⟩

/-! ### The decoders -/

section
variable {B : Bytes} {fc : FunctionCode} {k : Nat}

/-- A request with a flip in its function code fails a structural check (R143, R144). -/
theorem decReq_flipBit_code (policy : ReservedPolicy) (hcode : byteAt B 1 = fcCode fc) (hlength : B.length = reqLen fc)
    (hk : k / 8 = 1) : ∃ c, decReq policy (flipBit B k) = .error c ∧
      (c = .unknownFunctionCode ∨ c = .lengthMismatch) ∧ ¬ requestFieldsPass policy (flipBit B k) := by
  have hlength' : (flipBit B k).length = reqLen fc := (flipBit_length B k).trans hlength
  have hcode' : byteAt (flipBit B k) 1 ≠ fcCode fc :=
    flipBit_code_ne hcode hk (hk ▸ hlength ▸ lt_of_lt_of_le (by decide) (minReq_le fc))
  obtain ⟨c, hc, hmem⟩ := frameFc_wrong_code minReq_le reqLen_inj hlength' hcode'
  exact ⟨c, by rw [decReq, hc], hmem, fun hpass => hcode' (parses_of_fieldsPass_of_code hpass hlength').1⟩

/-- A request with a flip elsewhere fails as its fields fail to parse, or else on the CRC. -/
theorem decReq_flipBit_other (policy : ReservedPolicy) (hcode : byteAt B 1 = fcCode fc) (hlength : B.length = reqLen fc)
    (hvalid : crcValid B = true) (hbyte : k / 8 < B.length) (hk : k / 8 ≠ 1) :
    (∃ c, parseReq policy fc (flipBit B k) = .error c ∧ decReq policy (flipBit B k) = .error c) ∨
    (∃ pdu, parseReq policy fc (flipBit B k) = .ok pdu ∧ decReq policy (flipBit B k) = .error .checksumMismatch) := by
  have hlength' : (flipBit B k).length = reqLen fc := (flipBit_length B k).trans hlength
  have hcode' : byteAt (flipBit B k) 1 = fcCode fc := (byteAt_flipBit_of_ne (Ne.symm hk)).trans hcode
  cases hp : parseReq policy fc (flipBit B k) with
  | error c =>
    refine .inl ⟨c, rfl, ?_⟩
    rw [decReq, (frameFc_ok minReq_le).2 ⟨fcOf_eq_some.2 hcode', hlength'⟩]
    simp only [hp]
  | ok pdu => exact .inr ⟨pdu, rfl, decReq_checksumMismatch hlength' hcode' hp (crcValid_flipBit hvalid hbyte)⟩

/-- A response with a flip in its function code fails a structural check. -/
theorem decRsp_flipBit_code (hcode : byteAt B 1 = fcCode fc) (hlength : B.length = rspLen fc) (hk : k / 8 = 1) :
    ∃ c, decRsp (flipBit B k) = .error c ∧
      (c = .unknownFunctionCode ∨ c = .lengthMismatch) ∧ ¬ responseFieldsPass (flipBit B k) := by
  have hlength' : (flipBit B k).length = rspLen fc := (flipBit_length B k).trans hlength
  have hcode' : byteAt (flipBit B k) 1 ≠ fcCode fc :=
    flipBit_code_ne hcode hk (hk ▸ hlength ▸ lt_of_lt_of_le (by decide) (minRsp_le fc))
  obtain ⟨c, hc, hmem⟩ := frameFc_wrong_code minRsp_le rspLen_inj hlength' hcode'
  refine ⟨c, by rw [decRsp, hc], hmem, fun hpass => hcode' ?_⟩
  obtain ⟨fc', hfc', hlen⟩ := responseFieldsPass_iff.1 hpass
  rw [fcOf_eq_some.1 hfc', rspLen_inj (hlen.symm.trans hlength')]

/-- A response with a flip elsewhere fails on the CRC. -/
theorem decRsp_flipBit_other (hcode : byteAt B 1 = fcCode fc) (hlength : B.length = rspLen fc)
    (hvalid : crcValid B = true) (hbyte : k / 8 < B.length) (hk : k / 8 ≠ 1) :
    decRsp (flipBit B k) = .error .checksumMismatch := by
  have hlength' : (flipBit B k).length = rspLen fc := (flipBit_length B k).trans hlength
  have hcode' : byteAt (flipBit B k) 1 = fcCode fc := (byteAt_flipBit_of_ne (Ne.symm hk)).trans hcode
  have htwo : 2 ≤ (flipBit B k).length := hlength' ▸ le_trans (by decide) (minRsp_le fc)
  rw [decRsp, (frameFc_ok minRsp_le).2 ⟨fcOf_eq_some.2 hcode', hlength'⟩]
  exact afterCrc_mismatch htwo (crcValid_flipBit hvalid hbyte) _

end

/-- Settles O26: a flip in the function code makes the length wrong for the code; any other leaves a frame whose fields
parse or not, and whose CRC does not hold. -/
theorem singleBitFlipIsRejected : Obligations.SingleBitFlipIsRejected := by
  refine ⟨fun policy B adu k h hk => ?_, fun B r k h hk => ?_⟩
  · obtain ⟨fc, pdu, hfc, hlength, hpdu, hcrc, -⟩ := decReq_ok.1 h
    have hcode := fcOf_eq_some.1 hfc
    have hmin : 7 ≤ B.length := hlength ▸ minReq_le fc
    have hvalid : crcValid B = true := crcValid_iff_field.2 ⟨by omega, hcrc⟩
    have hbyte : k / 8 < B.length := by omega
    by_cases h1 : k / 8 = 1
    · obtain ⟨c, hc, hmem, hfails⟩ := decReq_flipBit_code policy hcode hlength h1
      refine ⟨c, hc, fun _ => hmem, by omega, (absurd · hfails), by omega, ?_⟩
      rcases hmem with rfl | rfl <;> decide
    · have hreserved : policy = .reject → byteAt B 1 = 0x64 → byteAt B 2 ∈ ([0x20, 0x00] : List Byte) → 3 ≤ k / 8 →
          k / 8 < 7 → parseReq policy fc (flipBit B k) = .error .reservedNonzero := by
        rintro rfl hcommand hsc hlow hhigh
        obtain rfl : fc = .command := Option.some.inj (hfc.symm.trans (hcommand ▸ fcOf_fcCode .command))
        exact parseReq_flipBit_reservedNonzero hpdu hsc hlow hhigh hbyte
      rcases decReq_flipBit_other policy hcode hlength hvalid hbyte h1 with ⟨c, hp, hc⟩ | ⟨pdu', hp, hc⟩
      · rw [hp] at hreserved
        refine ⟨c, hc, (absurd · h1), fun htail => ?_, fun hpass => ?_,
          fun hr hcommand hsc hlow hhigh => Except.error.inj (hreserved hr hcommand hsc hlow hhigh),
          List.mem_append_right [ResultCode.unknownFunctionCode, .lengthMismatch, .checksumMismatch]
            (parseReq_error_mem hp)⟩
        · have hsame : parseReq policy fc (flipBit B k) = parseReq policy fc B :=
            parseReq_congr fun n hn => byteAt_flipBit_of_ne (by omega)
          rw [hsame, hpdu] at hp; cases hp
        · obtain ⟨-, pdu', hpdu'⟩ := parses_of_fieldsPass_of_code hpass ((flipBit_length B k).trans hlength)
          rw [hpdu'] at hp; cases hp
      · rw [hp] at hreserved
        exact ⟨_, hc, (absurd · h1), fun _ => rfl, fun _ => rfl,
          fun hr hcommand hsc hlow hhigh => absurd (hreserved hr hcommand hsc hlow hhigh) nofun, by decide⟩
  · obtain ⟨fc, hfc, hlength, hcrc, -⟩ := decRsp_ok.1 h
    have hcode := fcOf_eq_some.1 hfc
    have hmin : 12 ≤ B.length := hlength ▸ minRsp_le fc
    have hvalid : crcValid B = true := crcValid_iff_field.2 ⟨by omega, hcrc⟩
    by_cases h1 : k / 8 = 1
    · obtain ⟨c, hc, hmem, hfails⟩ := decRsp_flipBit_code hcode hlength h1
      exact ⟨c, hc, fun _ => hmem, (absurd h1 ·), (absurd · hfails)⟩
    · exact ⟨_, decRsp_flipBit_other hcode hlength hvalid (by omega) h1, (absurd · h1), fun _ => rfl, fun _ => rfl⟩

end Sys2Proof.Machine
end

section
/-! STATUS and ErrorFlags as numbers of bits: the sum a STATUS is (10_state.md R27), and the bits ERRFLAG_POS leaves
(30_encoding.md R74). -/

namespace Sys2Proof.Machine

/-- A bit of a value is a binary digit of its number. -/
theorem toNat_getLsbD {w : Nat} (v : BitVec w) (k : Nat) : (v.getLsbD k).toNat = v.toNat / 2 ^ k % 2 :=
  Nat.toNat_testBit _ _

/-- Every STATUS is the sum of its fields, each at its place (R27). -/
theorem status_toNat (v : U16) : v.toNat = (statusResult v).toNat + 16 * (statusPending v).toNat +
    32 * (statusCtx v).toNat + 64 * (statusAddrMatch v).toNat + 128 * (statusVariantMatch v).toNat +
    256 * (statusModeDefaulted v).toNat + 512 * (statusReserved v).toNat := by
  have hlt := v.isLt
  simp only [statusResult, statusPending, statusCtx, statusAddrMatch, statusVariantMatch, statusModeDefaulted,
    statusReserved, toNat_getLsbD, BitVec.extractLsb'_toNat, Nat.shiftRight_eq_div_pow]
  omega

/-- Settles O45: a packed STATUS is the sum of the fields it was packed from, with the reserved bits 0. -/
theorem statusLayoutFollowsTheTable : Obligations.StatusLayoutFollowsTheTable := by
  refine ⟨fun r pending ctx am vm md => ?_, status_toNat, rfl⟩
  simpa using status_toNat (packStatus r pending ⟨ctx, am, vm, md⟩)

/-- Positions with allowed gaps rise (R74 constraint 2). -/
theorem pairwise_lt_of_gapsAllowed {l : List Nat} (h : gapsAllowed l = true) : l.Pairwise (· < ·) := by
  rw [← List.isChain_iff_pairwise]
  induction l with
  | nil => exact .nil
  | cons lo rest ih =>
    cases rest with
    | nil => exact .singleton lo
    | cons hi rest =>
      obtain ⟨hgap, hrest⟩ := Bool.and_eq_true_iff.1 h
      have hlt : lo < hi := by
        simp only [gapAllowed, Bool.or_eq_true, beq_iff_eq, decide_eq_true_eq] at hgap
        omega
      exact .cons_cons hlt (ih hrest)

/-- Of the numbers below `n`, those not in a list of distinct ones are as many as are left. -/
theorem length_filter_not_mem {l : List Nat} {n : Nat} (hl : l.Nodup) (hlt : ∀ k ∈ l, k < n) :
    ((List.range n).filter fun k => k ∉ l).length + l.length = n := by
  have hmem : ((List.range n).filter fun k => k ∈ l).Perm l :=
    (List.perm_ext_iff_of_nodup (List.nodup_range.filter _) hl).2 fun k => by simpa using hlt k
  have hsplit := List.length_eq_length_filter_add (l := List.range n) fun k => decide (k ∈ l)
  rw [List.length_range, hmem.length_eq] at hsplit
  simp only [decide_not]
  omega

theorem toList_lt (pos : ErrFlagPos) : ∀ k ∈ pos.toList, k < 16 := by
  simp [ErrFlagPos.toList]

/-- Settles O53: rising positions are distinct, and nine distinct ones of sixteen leave seven. -/
theorem sevenErrorBitsAreReserved : Obligations.SevenErrorBitsAreReserved := by
  intro pos hvalid
  have hnodup : pos.toList.Nodup := (pairwise_lt_of_gapsAllowed hvalid).imp ne_of_lt
  have hcount := length_filter_not_mem hnodup (toList_lt pos)
  have hnine : pos.toList.length = 9 := rfl
  exact ⟨hnodup, by rw [ErrFlagPos.reserved]; omega⟩

end Sys2Proof.Machine
end
